-- ==== Sys2Proof/Word.lean ====
section
/-! DEFINITION. The two word types of the machine (rules R7, R20, R60): a byte and a 16-bit word. -/

namespace Sys2Proof

/-- Eight bits: a general register, a byte of memory, an instruction byte (rule R7). -/
abbrev Byte := BitVec 8

/-- Sixteen bits: a register pair, the stack pointer, the program counter, an address (rules R7, R60). -/
abbrev Word := BitVec 16

end Sys2Proof
end

