-- ==== Sys2Proof/Machine/Bits.lean ====
section
/-! DEFINITION. Bit-field helpers: the halves of a word, sign extension and the bytes of an instruction
(rules R8, R9, R21, R67, R112). -/

namespace Sys2Proof

/-- Bits 15 to 8 of a word. -/
def hiByte (w : Word) : Byte := w.extractLsb' 8 8

/-- Bits 7 to 0 of a word. -/
def loByte (w : Word) : Byte := w.extractLsb' 0 8

/-- The word whose high byte is `h` and whose low byte is `l` (rule R21, `h ++ l`). -/
def joinBytes (h l : Byte) : Word := h ++ l

/-- `sext_16` of rule R9. -/
def sext16 (e : Byte) : Word := e.signExtend 16

/-- The address `0xFF00 + n` of the high page (rule R116). -/
def highPage (n : Byte) : Word := joinBytes 0xFF n

/-- A bit as a byte, 0 or 1. -/
def bitByte (b : Bool) : Byte := if b then 1 else 0

/-- The field `x` of an opcode byte (rule R112). -/
def fieldX (op : Byte) : BitVec 2 := op.extractLsb' 6 2
/-- The field `y` of an opcode byte (rule R112). -/
def fieldY (op : Byte) : BitVec 3 := op.extractLsb' 3 3
/-- The field `z` of an opcode byte (rule R112). -/
def fieldZ (op : Byte) : BitVec 3 := op.extractLsb' 0 3
/-- The field `p` of an opcode byte (rule R112). -/
def fieldP (op : Byte) : BitVec 2 := op.extractLsb' 4 2
/-- The field `q` of an opcode byte (rule R112). -/
def fieldQ (op : Byte) : Bool := op.getLsbD 3

end Sys2Proof
end

