-- ==== Sys2Proof/Machine/Codes.lean ====
section
/-! DEFINITION. The names that the code fields of an opcode select (rules R9, R115, R124): registers, pairs,
conditions, accumulator operations, rotates, and the illegal opcodes. -/

namespace Sys2Proof

/-- The seven 8-bit registers a 3-bit code can name (rules R9, R115); code 6 is memory at HL, not a register. -/
inductive Reg8 where
  | b | c | d | e | h | l | a
deriving DecidableEq, Repr

/-- The pairs `rp[p]` of rule R115. -/
inductive Pair where
  | bc | de | hl | sp
deriving DecidableEq, Repr

/-- The pairs `rp2[p]` of rule R115, those that PUSH and POP move. -/
inductive StackPair where
  | bc | de | hl | af
deriving DecidableEq, Repr

/-- The conditions `cc[c]` of rule R115. -/
inductive Cond where
  | nz | z | nc | c
deriving DecidableEq, Repr

/-- The eight accumulator operations `alu[y]` of rule R115. -/
inductive AluOp where
  | add | adc | sub | sbc | and | xor | or | cp
deriving DecidableEq, Repr

/-- The eight rotates and shifts `rot[y]` of rule R115. -/
inductive RotOp where
  | rlc | rrc | rl | rr | sla | sra | swap | srl
deriving DecidableEq, Repr

/-- The eleven illegal primary opcodes (rule R124). -/
inductive IllegalOpcode where
  | xD3 | xDB | xDD | xE3 | xE4 | xEB | xEC | xED | xF4 | xFC | xFD
deriving DecidableEq, Repr

/-- The opcode byte of an illegal opcode (rule R124). -/
def IllegalOpcode.byte : IllegalOpcode → Byte
  | .xD3 => 0xD3 | .xDB => 0xDB | .xDD => 0xDD | .xE3 => 0xE3 | .xE4 => 0xE4 | .xEB => 0xEB
  | .xEC => 0xEC | .xED => 0xED | .xF4 => 0xF4 | .xFC => 0xFC | .xFD => 0xFD

/-- The pair `rp[p]` a 2-bit code names (rule R115). -/
def Pair.ofCode (p : BitVec 2) : Pair :=
  match p.toNat with
  | 0 => .bc
  | 1 => .de
  | 2 => .hl
  | _ => .sp

/-- The pair `rp2[p]` a 2-bit code names (rule R115). -/
def StackPair.ofCode (p : BitVec 2) : StackPair :=
  match p.toNat with
  | 0 => .bc
  | 1 => .de
  | 2 => .hl
  | _ => .af

/-- The condition a 2-bit code names (rule R115); the low two bits of `y` in every conditional opcode. -/
def Cond.ofCode (c : BitVec 2) : Cond :=
  match c.toNat with
  | 0 => .nz
  | 1 => .z
  | 2 => .nc
  | _ => .c

/-- The 8-bit operand `r[i]` a 3-bit code names: a register, or `none` for code 6, memory at HL (rule R115). -/
def Reg8.ofCode (i : BitVec 3) : Option Reg8 :=
  match i.toNat with
  | 0 => some .b
  | 1 => some .c
  | 2 => some .d
  | 3 => some .e
  | 4 => some .h
  | 5 => some .l
  | 6 => none
  | _ => some .a

/-- The accumulator operation `alu[y]` (rule R115). -/
def AluOp.ofCode (y : BitVec 3) : AluOp :=
  match y.toNat with
  | 0 => .add
  | 1 => .adc
  | 2 => .sub
  | 3 => .sbc
  | 4 => .and
  | 5 => .xor
  | 6 => .or
  | _ => .cp

/-- The rotate or shift `rot[y]` (rule R115). -/
def RotOp.ofCode (y : BitVec 3) : RotOp :=
  match y.toNat with
  | 0 => .rlc
  | 1 => .rrc
  | 2 => .rl
  | 3 => .rr
  | 4 => .sla
  | 5 => .sra
  | 6 => .swap
  | _ => .srl

end Sys2Proof
end

