-- ==== Sys2Proof/Syntax.lean ====
section
/-! DEFINITION. The instructions: one constructor for each of the 512 rows of the opcode table (rules R110,
R122, R128), with the operand bytes that follow the opcode as its arguments. -/

namespace Sys2Proof

/-- The instructions. `n` is an unsigned immediate byte, `e` a displacement byte in two's complement, `nn` a
16-bit immediate or address, `op2` the second byte of an extended-table instruction (rules R114, R116). The rows
with operand bytes stand first, each group in the order of the table. -/
inductive Instr where
  /-- `LD BC,nn` (`01`), rule R170. -/
  | ldBcImm (nn : Word)
  /-- `LD B,n` (`06`), rule R141. -/
  | ldBImm (n : Byte)
  /-- `LD (nn),SP` (`08`), rule R171. -/
  | ldIndAbsSp (nn : Word)
  /-- `LD C,n` (`0E`), rule R141. -/
  | ldCImm (n : Byte)
  /-- `STOP` (`10`), rule R313. -/
  | stop (n : Byte)
  /-- `LD DE,nn` (`11`), rule R170. -/
  | ldDeImm (nn : Word)
  /-- `LD D,n` (`16`), rule R141. -/
  | ldDImm (n : Byte)
  /-- `JR e` (`18`), rule R283. -/
  | jrRel (e : Byte)
  /-- `LD E,n` (`1E`), rule R141. -/
  | ldEImm (n : Byte)
  /-- `JR NZ,e` (`20`), rule R284. -/
  | jrNzRel (e : Byte)
  /-- `LD HL,nn` (`21`), rule R170. -/
  | ldHlImm (nn : Word)
  /-- `LD H,n` (`26`), rule R141. -/
  | ldHImm (n : Byte)
  /-- `JR Z,e` (`28`), rule R284. -/
  | jrZRel (e : Byte)
  /-- `LD L,n` (`2E`), rule R141. -/
  | ldLImm (n : Byte)
  /-- `JR NC,e` (`30`), rule R284. -/
  | jrNcRel (e : Byte)
  /-- `LD SP,nn` (`31`), rule R170. -/
  | ldSpImm (nn : Word)
  /-- `LD (HL),n` (`36`), rule R144. -/
  | ldIndHlImm (n : Byte)
  /-- `JR C,e` (`38`), rule R284. -/
  | jrCRel (e : Byte)
  /-- `LD A,n` (`3E`), rule R141. -/
  | ldAImm (n : Byte)
  /-- `JP NZ,nn` (`C2`), rule R281. -/
  | jpNzImm (nn : Word)
  /-- `JP nn` (`C3`), rule R280. -/
  | jpImm (nn : Word)
  /-- `CALL NZ,nn` (`C4`), rule R286. -/
  | callNzImm (nn : Word)
  /-- `ADD A,n` (`C6`), rule R193. -/
  | addAImm (n : Byte)
  /-- `JP Z,nn` (`CA`), rule R281. -/
  | jpZImm (nn : Word)
  /-- `PREFIX CB` (`CB`), rule R244. -/
  | prefixCb (op2 : Byte)
  /-- `CALL Z,nn` (`CC`), rule R286. -/
  | callZImm (nn : Word)
  /-- `CALL nn` (`CD`), rule R285. -/
  | callImm (nn : Word)
  /-- `ADC A,n` (`CE`), rule R196. -/
  | adcAImm (n : Byte)
  /-- `JP NC,nn` (`D2`), rule R281. -/
  | jpNcImm (nn : Word)
  /-- `CALL NC,nn` (`D4`), rule R286. -/
  | callNcImm (nn : Word)
  /-- `SUB n` (`D6`), rule R199. -/
  | subImm (n : Byte)
  /-- `JP C,nn` (`DA`), rule R281. -/
  | jpCImm (nn : Word)
  /-- `CALL C,nn` (`DC`), rule R286. -/
  | callCImm (nn : Word)
  /-- `SBC A,n` (`DE`), rule R202. -/
  | sbcAImm (n : Byte)
  /-- `LDH (n),A` (`E0`), rule R154. -/
  | ldhIndImmA (n : Byte)
  /-- `AND n` (`E6`), rule R205. -/
  | andImm (n : Byte)
  /-- `ADD SP,e` (`E8`), rule R233. -/
  | addSpRel (e : Byte)
  /-- `LD (nn),A` (`EA`), rule R150. -/
  | ldIndAbsA (nn : Word)
  /-- `XOR n` (`EE`), rule R208. -/
  | xorImm (n : Byte)
  /-- `LDH A,(n)` (`F0`), rule R153. -/
  | ldhAIndImm (n : Byte)
  /-- `OR n` (`F6`), rule R211. -/
  | orImm (n : Byte)
  /-- `LD HL,SP+e` (`F8`), rule R173. -/
  | ldHlSpRel (e : Byte)
  /-- `LD A,(nn)` (`FA`), rule R149. -/
  | ldAIndAbs (nn : Word)
  /-- `CP n` (`FE`), rule R214. -/
  | cpImm (n : Byte)
  /-- `NOP` (`00`), rule R310. -/
  | nop
  /-- `LD (BC),A` (`02`), rule R147. -/
  | ldIndBcA
  /-- `INC BC` (`03`), rule R231. -/
  | incBc
  /-- `INC B` (`04`), rule R215. -/
  | incB
  /-- `DEC B` (`05`), rule R217. -/
  | decB
  /-- `RLCA` (`07`), rule R240. -/
  | rlca
  /-- `ADD HL,BC` (`09`), rule R230. -/
  | addHlBc
  /-- `LD A,(BC)` (`0A`), rule R145. -/
  | ldAIndBc
  /-- `DEC BC` (`0B`), rule R232. -/
  | decBc
  /-- `INC C` (`0C`), rule R215. -/
  | incC
  /-- `DEC C` (`0D`), rule R217. -/
  | decC
  /-- `RRCA` (`0F`), rule R241. -/
  | rrca
  /-- `LD (DE),A` (`12`), rule R148. -/
  | ldIndDeA
  /-- `INC DE` (`13`), rule R231. -/
  | incDe
  /-- `INC D` (`14`), rule R215. -/
  | incD
  /-- `DEC D` (`15`), rule R217. -/
  | decD
  /-- `RLA` (`17`), rule R242. -/
  | rla
  /-- `ADD HL,DE` (`19`), rule R230. -/
  | addHlDe
  /-- `LD A,(DE)` (`1A`), rule R146. -/
  | ldAIndDe
  /-- `DEC DE` (`1B`), rule R232. -/
  | decDe
  /-- `INC E` (`1C`), rule R215. -/
  | incE
  /-- `DEC E` (`1D`), rule R217. -/
  | decE
  /-- `RRA` (`1F`), rule R243. -/
  | rra
  /-- `LD (HL+),A` (`22`), rule R157. -/
  | ldIndHlIncA
  /-- `INC HL` (`23`), rule R231. -/
  | incHl
  /-- `INC H` (`24`), rule R215. -/
  | incH
  /-- `DEC H` (`25`), rule R217. -/
  | decH
  /-- `DAA` (`27`), rule R219. -/
  | daa
  /-- `ADD HL,HL` (`29`), rule R230. -/
  | addHlHl
  /-- `LD A,(HL+)` (`2A`), rule R155. -/
  | ldAIndHlInc
  /-- `DEC HL` (`2B`), rule R232. -/
  | decHl
  /-- `INC L` (`2C`), rule R215. -/
  | incL
  /-- `DEC L` (`2D`), rule R217. -/
  | decL
  /-- `CPL` (`2F`), rule R220. -/
  | cpl
  /-- `LD (HL-),A` (`32`), rule R158. -/
  | ldIndHlDecA
  /-- `INC SP` (`33`), rule R231. -/
  | incSp
  /-- `INC (HL)` (`34`), rule R216. -/
  | incIndHl
  /-- `DEC (HL)` (`35`), rule R218. -/
  | decIndHl
  /-- `SCF` (`37`), rule R221. -/
  | scf
  /-- `ADD HL,SP` (`39`), rule R230. -/
  | addHlSp
  /-- `LD A,(HL-)` (`3A`), rule R156. -/
  | ldAIndHlDec
  /-- `DEC SP` (`3B`), rule R232. -/
  | decSp
  /-- `INC A` (`3C`), rule R215. -/
  | incA
  /-- `DEC A` (`3D`), rule R217. -/
  | decA
  /-- `CCF` (`3F`), rule R222. -/
  | ccf
  /-- `LD B,B` (`40`), rule R140. -/
  | ldBB
  /-- `LD B,C` (`41`), rule R140. -/
  | ldBC
  /-- `LD B,D` (`42`), rule R140. -/
  | ldBD
  /-- `LD B,E` (`43`), rule R140. -/
  | ldBE
  /-- `LD B,H` (`44`), rule R140. -/
  | ldBH
  /-- `LD B,L` (`45`), rule R140. -/
  | ldBL
  /-- `LD B,(HL)` (`46`), rule R142. -/
  | ldBIndHl
  /-- `LD B,A` (`47`), rule R140. -/
  | ldBA
  /-- `LD C,B` (`48`), rule R140. -/
  | ldCB
  /-- `LD C,C` (`49`), rule R140. -/
  | ldCC
  /-- `LD C,D` (`4A`), rule R140. -/
  | ldCD
  /-- `LD C,E` (`4B`), rule R140. -/
  | ldCE
  /-- `LD C,H` (`4C`), rule R140. -/
  | ldCH
  /-- `LD C,L` (`4D`), rule R140. -/
  | ldCL
  /-- `LD C,(HL)` (`4E`), rule R142. -/
  | ldCIndHl
  /-- `LD C,A` (`4F`), rule R140. -/
  | ldCA
  /-- `LD D,B` (`50`), rule R140. -/
  | ldDB
  /-- `LD D,C` (`51`), rule R140. -/
  | ldDC
  /-- `LD D,D` (`52`), rule R140. -/
  | ldDD
  /-- `LD D,E` (`53`), rule R140. -/
  | ldDE
  /-- `LD D,H` (`54`), rule R140. -/
  | ldDH
  /-- `LD D,L` (`55`), rule R140. -/
  | ldDL
  /-- `LD D,(HL)` (`56`), rule R142. -/
  | ldDIndHl
  /-- `LD D,A` (`57`), rule R140. -/
  | ldDA
  /-- `LD E,B` (`58`), rule R140. -/
  | ldEB
  /-- `LD E,C` (`59`), rule R140. -/
  | ldEC
  /-- `LD E,D` (`5A`), rule R140. -/
  | ldED
  /-- `LD E,E` (`5B`), rule R140. -/
  | ldEE
  /-- `LD E,H` (`5C`), rule R140. -/
  | ldEH
  /-- `LD E,L` (`5D`), rule R140. -/
  | ldEL
  /-- `LD E,(HL)` (`5E`), rule R142. -/
  | ldEIndHl
  /-- `LD E,A` (`5F`), rule R140. -/
  | ldEA
  /-- `LD H,B` (`60`), rule R140. -/
  | ldHB
  /-- `LD H,C` (`61`), rule R140. -/
  | ldHC
  /-- `LD H,D` (`62`), rule R140. -/
  | ldHD
  /-- `LD H,E` (`63`), rule R140. -/
  | ldHE
  /-- `LD H,H` (`64`), rule R140. -/
  | ldHH
  /-- `LD H,L` (`65`), rule R140. -/
  | ldHL
  /-- `LD H,(HL)` (`66`), rule R142. -/
  | ldHIndHl
  /-- `LD H,A` (`67`), rule R140. -/
  | ldHA
  /-- `LD L,B` (`68`), rule R140. -/
  | ldLB
  /-- `LD L,C` (`69`), rule R140. -/
  | ldLC
  /-- `LD L,D` (`6A`), rule R140. -/
  | ldLD
  /-- `LD L,E` (`6B`), rule R140. -/
  | ldLE
  /-- `LD L,H` (`6C`), rule R140. -/
  | ldLH
  /-- `LD L,L` (`6D`), rule R140. -/
  | ldLL
  /-- `LD L,(HL)` (`6E`), rule R142. -/
  | ldLIndHl
  /-- `LD L,A` (`6F`), rule R140. -/
  | ldLA
  /-- `LD (HL),B` (`70`), rule R143. -/
  | ldIndHlB
  /-- `LD (HL),C` (`71`), rule R143. -/
  | ldIndHlC
  /-- `LD (HL),D` (`72`), rule R143. -/
  | ldIndHlD
  /-- `LD (HL),E` (`73`), rule R143. -/
  | ldIndHlE
  /-- `LD (HL),H` (`74`), rule R143. -/
  | ldIndHlH
  /-- `LD (HL),L` (`75`), rule R143. -/
  | ldIndHlL
  /-- `HALT` (`76`), rule R311. -/
  | halt
  /-- `LD (HL),A` (`77`), rule R143. -/
  | ldIndHlA
  /-- `LD A,B` (`78`), rule R140. -/
  | ldAB
  /-- `LD A,C` (`79`), rule R140. -/
  | ldAC
  /-- `LD A,D` (`7A`), rule R140. -/
  | ldAD
  /-- `LD A,E` (`7B`), rule R140. -/
  | ldAE
  /-- `LD A,H` (`7C`), rule R140. -/
  | ldAH
  /-- `LD A,L` (`7D`), rule R140. -/
  | ldAL
  /-- `LD A,(HL)` (`7E`), rule R142. -/
  | ldAIndHl
  /-- `LD A,A` (`7F`), rule R140. -/
  | ldAA
  /-- `ADD A,B` (`80`), rule R191. -/
  | addAB
  /-- `ADD A,C` (`81`), rule R191. -/
  | addAC
  /-- `ADD A,D` (`82`), rule R191. -/
  | addAD
  /-- `ADD A,E` (`83`), rule R191. -/
  | addAE
  /-- `ADD A,H` (`84`), rule R191. -/
  | addAH
  /-- `ADD A,L` (`85`), rule R191. -/
  | addAL
  /-- `ADD A,(HL)` (`86`), rule R192. -/
  | addAIndHl
  /-- `ADD A,A` (`87`), rule R191. -/
  | addAA
  /-- `ADC A,B` (`88`), rule R194. -/
  | adcAB
  /-- `ADC A,C` (`89`), rule R194. -/
  | adcAC
  /-- `ADC A,D` (`8A`), rule R194. -/
  | adcAD
  /-- `ADC A,E` (`8B`), rule R194. -/
  | adcAE
  /-- `ADC A,H` (`8C`), rule R194. -/
  | adcAH
  /-- `ADC A,L` (`8D`), rule R194. -/
  | adcAL
  /-- `ADC A,(HL)` (`8E`), rule R195. -/
  | adcAIndHl
  /-- `ADC A,A` (`8F`), rule R194. -/
  | adcAA
  /-- `SUB B` (`90`), rule R197. -/
  | subB
  /-- `SUB C` (`91`), rule R197. -/
  | subC
  /-- `SUB D` (`92`), rule R197. -/
  | subD
  /-- `SUB E` (`93`), rule R197. -/
  | subE
  /-- `SUB H` (`94`), rule R197. -/
  | subH
  /-- `SUB L` (`95`), rule R197. -/
  | subL
  /-- `SUB (HL)` (`96`), rule R198. -/
  | subIndHl
  /-- `SUB A` (`97`), rule R197. -/
  | subA
  /-- `SBC A,B` (`98`), rule R200. -/
  | sbcAB
  /-- `SBC A,C` (`99`), rule R200. -/
  | sbcAC
  /-- `SBC A,D` (`9A`), rule R200. -/
  | sbcAD
  /-- `SBC A,E` (`9B`), rule R200. -/
  | sbcAE
  /-- `SBC A,H` (`9C`), rule R200. -/
  | sbcAH
  /-- `SBC A,L` (`9D`), rule R200. -/
  | sbcAL
  /-- `SBC A,(HL)` (`9E`), rule R201. -/
  | sbcAIndHl
  /-- `SBC A,A` (`9F`), rule R200. -/
  | sbcAA
  /-- `AND B` (`A0`), rule R203. -/
  | andB
  /-- `AND C` (`A1`), rule R203. -/
  | andC
  /-- `AND D` (`A2`), rule R203. -/
  | andD
  /-- `AND E` (`A3`), rule R203. -/
  | andE
  /-- `AND H` (`A4`), rule R203. -/
  | andH
  /-- `AND L` (`A5`), rule R203. -/
  | andL
  /-- `AND (HL)` (`A6`), rule R204. -/
  | andIndHl
  /-- `AND A` (`A7`), rule R203. -/
  | andA
  /-- `XOR B` (`A8`), rule R206. -/
  | xorB
  /-- `XOR C` (`A9`), rule R206. -/
  | xorC
  /-- `XOR D` (`AA`), rule R206. -/
  | xorD
  /-- `XOR E` (`AB`), rule R206. -/
  | xorE
  /-- `XOR H` (`AC`), rule R206. -/
  | xorH
  /-- `XOR L` (`AD`), rule R206. -/
  | xorL
  /-- `XOR (HL)` (`AE`), rule R207. -/
  | xorIndHl
  /-- `XOR A` (`AF`), rule R206. -/
  | xorA
  /-- `OR B` (`B0`), rule R209. -/
  | orB
  /-- `OR C` (`B1`), rule R209. -/
  | orC
  /-- `OR D` (`B2`), rule R209. -/
  | orD
  /-- `OR E` (`B3`), rule R209. -/
  | orE
  /-- `OR H` (`B4`), rule R209. -/
  | orH
  /-- `OR L` (`B5`), rule R209. -/
  | orL
  /-- `OR (HL)` (`B6`), rule R210. -/
  | orIndHl
  /-- `OR A` (`B7`), rule R209. -/
  | orA
  /-- `CP B` (`B8`), rule R212. -/
  | cpB
  /-- `CP C` (`B9`), rule R212. -/
  | cpC
  /-- `CP D` (`BA`), rule R212. -/
  | cpD
  /-- `CP E` (`BB`), rule R212. -/
  | cpE
  /-- `CP H` (`BC`), rule R212. -/
  | cpH
  /-- `CP L` (`BD`), rule R212. -/
  | cpL
  /-- `CP (HL)` (`BE`), rule R213. -/
  | cpIndHl
  /-- `CP A` (`BF`), rule R212. -/
  | cpA
  /-- `RET NZ` (`C0`), rule R288. -/
  | retNz
  /-- `POP BC` (`C1`), rule R175. -/
  | popBc
  /-- `PUSH BC` (`C5`), rule R174. -/
  | pushBc
  /-- `RST 00h` (`C7`), rule R290. -/
  | rst00
  /-- `RET Z` (`C8`), rule R288. -/
  | retZ
  /-- `RET` (`C9`), rule R287. -/
  | ret
  /-- `RST 08h` (`CF`), rule R290. -/
  | rst08
  /-- `RET NC` (`D0`), rule R288. -/
  | retNc
  /-- `POP DE` (`D1`), rule R175. -/
  | popDe
  /-- `ILLEGAL_D3` (`D3`), rule R316. -/
  | illegalD3
  /-- `PUSH DE` (`D5`), rule R174. -/
  | pushDe
  /-- `RST 10h` (`D7`), rule R290. -/
  | rst10
  /-- `RET C` (`D8`), rule R288. -/
  | retC
  /-- `RETI` (`D9`), rule R289. -/
  | reti
  /-- `ILLEGAL_DB` (`DB`), rule R316. -/
  | illegalDB
  /-- `ILLEGAL_DD` (`DD`), rule R316. -/
  | illegalDD
  /-- `RST 18h` (`DF`), rule R290. -/
  | rst18
  /-- `POP HL` (`E1`), rule R175. -/
  | popHl
  /-- `LDH (C),A` (`E2`), rule R152. -/
  | ldhIndCA
  /-- `ILLEGAL_E3` (`E3`), rule R316. -/
  | illegalE3
  /-- `ILLEGAL_E4` (`E4`), rule R316. -/
  | illegalE4
  /-- `PUSH HL` (`E5`), rule R174. -/
  | pushHl
  /-- `RST 20h` (`E7`), rule R290. -/
  | rst20
  /-- `JP HL` (`E9`), rule R282. -/
  | jpHl
  /-- `ILLEGAL_EB` (`EB`), rule R316. -/
  | illegalEB
  /-- `ILLEGAL_EC` (`EC`), rule R316. -/
  | illegalEC
  /-- `ILLEGAL_ED` (`ED`), rule R316. -/
  | illegalED
  /-- `RST 28h` (`EF`), rule R290. -/
  | rst28
  /-- `POP AF` (`F1`), rule R175. -/
  | popAf
  /-- `LDH A,(C)` (`F2`), rule R151. -/
  | ldhAIndC
  /-- `DI` (`F3`), rule R314. -/
  | di
  /-- `ILLEGAL_F4` (`F4`), rule R316. -/
  | illegalF4
  /-- `PUSH AF` (`F5`), rule R174. -/
  | pushAf
  /-- `RST 30h` (`F7`), rule R290. -/
  | rst30
  /-- `LD SP,HL` (`F9`), rule R172. -/
  | ldSpHl
  /-- `EI` (`FB`), rule R315. -/
  | ei
  /-- `ILLEGAL_FC` (`FC`), rule R316. -/
  | illegalFC
  /-- `ILLEGAL_FD` (`FD`), rule R316. -/
  | illegalFD
  /-- `RST 38h` (`FF`), rule R290. -/
  | rst38
  /-- `RLC B` (`CB 00`), rule R245. -/
  | rlcB
  /-- `RLC C` (`CB 01`), rule R245. -/
  | rlcC
  /-- `RLC D` (`CB 02`), rule R245. -/
  | rlcD
  /-- `RLC E` (`CB 03`), rule R245. -/
  | rlcE
  /-- `RLC H` (`CB 04`), rule R245. -/
  | rlcH
  /-- `RLC L` (`CB 05`), rule R245. -/
  | rlcL
  /-- `RLC (HL)` (`CB 06`), rule R246. -/
  | rlcIndHl
  /-- `RLC A` (`CB 07`), rule R245. -/
  | rlcA
  /-- `RRC B` (`CB 08`), rule R247. -/
  | rrcB
  /-- `RRC C` (`CB 09`), rule R247. -/
  | rrcC
  /-- `RRC D` (`CB 0A`), rule R247. -/
  | rrcD
  /-- `RRC E` (`CB 0B`), rule R247. -/
  | rrcE
  /-- `RRC H` (`CB 0C`), rule R247. -/
  | rrcH
  /-- `RRC L` (`CB 0D`), rule R247. -/
  | rrcL
  /-- `RRC (HL)` (`CB 0E`), rule R248. -/
  | rrcIndHl
  /-- `RRC A` (`CB 0F`), rule R247. -/
  | rrcA
  /-- `RL B` (`CB 10`), rule R249. -/
  | rlB
  /-- `RL C` (`CB 11`), rule R249. -/
  | rlC
  /-- `RL D` (`CB 12`), rule R249. -/
  | rlD
  /-- `RL E` (`CB 13`), rule R249. -/
  | rlE
  /-- `RL H` (`CB 14`), rule R249. -/
  | rlH
  /-- `RL L` (`CB 15`), rule R249. -/
  | rlL
  /-- `RL (HL)` (`CB 16`), rule R250. -/
  | rlIndHl
  /-- `RL A` (`CB 17`), rule R249. -/
  | rlA
  /-- `RR B` (`CB 18`), rule R251. -/
  | rrB
  /-- `RR C` (`CB 19`), rule R251. -/
  | rrC
  /-- `RR D` (`CB 1A`), rule R251. -/
  | rrD
  /-- `RR E` (`CB 1B`), rule R251. -/
  | rrE
  /-- `RR H` (`CB 1C`), rule R251. -/
  | rrH
  /-- `RR L` (`CB 1D`), rule R251. -/
  | rrL
  /-- `RR (HL)` (`CB 1E`), rule R252. -/
  | rrIndHl
  /-- `RR A` (`CB 1F`), rule R251. -/
  | rrA
  /-- `SLA B` (`CB 20`), rule R253. -/
  | slaB
  /-- `SLA C` (`CB 21`), rule R253. -/
  | slaC
  /-- `SLA D` (`CB 22`), rule R253. -/
  | slaD
  /-- `SLA E` (`CB 23`), rule R253. -/
  | slaE
  /-- `SLA H` (`CB 24`), rule R253. -/
  | slaH
  /-- `SLA L` (`CB 25`), rule R253. -/
  | slaL
  /-- `SLA (HL)` (`CB 26`), rule R254. -/
  | slaIndHl
  /-- `SLA A` (`CB 27`), rule R253. -/
  | slaA
  /-- `SRA B` (`CB 28`), rule R255. -/
  | sraB
  /-- `SRA C` (`CB 29`), rule R255. -/
  | sraC
  /-- `SRA D` (`CB 2A`), rule R255. -/
  | sraD
  /-- `SRA E` (`CB 2B`), rule R255. -/
  | sraE
  /-- `SRA H` (`CB 2C`), rule R255. -/
  | sraH
  /-- `SRA L` (`CB 2D`), rule R255. -/
  | sraL
  /-- `SRA (HL)` (`CB 2E`), rule R256. -/
  | sraIndHl
  /-- `SRA A` (`CB 2F`), rule R255. -/
  | sraA
  /-- `SWAP B` (`CB 30`), rule R257. -/
  | swapB
  /-- `SWAP C` (`CB 31`), rule R257. -/
  | swapC
  /-- `SWAP D` (`CB 32`), rule R257. -/
  | swapD
  /-- `SWAP E` (`CB 33`), rule R257. -/
  | swapE
  /-- `SWAP H` (`CB 34`), rule R257. -/
  | swapH
  /-- `SWAP L` (`CB 35`), rule R257. -/
  | swapL
  /-- `SWAP (HL)` (`CB 36`), rule R258. -/
  | swapIndHl
  /-- `SWAP A` (`CB 37`), rule R257. -/
  | swapA
  /-- `SRL B` (`CB 38`), rule R259. -/
  | srlB
  /-- `SRL C` (`CB 39`), rule R259. -/
  | srlC
  /-- `SRL D` (`CB 3A`), rule R259. -/
  | srlD
  /-- `SRL E` (`CB 3B`), rule R259. -/
  | srlE
  /-- `SRL H` (`CB 3C`), rule R259. -/
  | srlH
  /-- `SRL L` (`CB 3D`), rule R259. -/
  | srlL
  /-- `SRL (HL)` (`CB 3E`), rule R260. -/
  | srlIndHl
  /-- `SRL A` (`CB 3F`), rule R259. -/
  | srlA
  /-- `BIT 0,B` (`CB 40`), rule R261. -/
  | bit0B
  /-- `BIT 0,C` (`CB 41`), rule R261. -/
  | bit0C
  /-- `BIT 0,D` (`CB 42`), rule R261. -/
  | bit0D
  /-- `BIT 0,E` (`CB 43`), rule R261. -/
  | bit0E
  /-- `BIT 0,H` (`CB 44`), rule R261. -/
  | bit0H
  /-- `BIT 0,L` (`CB 45`), rule R261. -/
  | bit0L
  /-- `BIT 0,(HL)` (`CB 46`), rule R262. -/
  | bit0IndHl
  /-- `BIT 0,A` (`CB 47`), rule R261. -/
  | bit0A
  /-- `BIT 1,B` (`CB 48`), rule R261. -/
  | bit1B
  /-- `BIT 1,C` (`CB 49`), rule R261. -/
  | bit1C
  /-- `BIT 1,D` (`CB 4A`), rule R261. -/
  | bit1D
  /-- `BIT 1,E` (`CB 4B`), rule R261. -/
  | bit1E
  /-- `BIT 1,H` (`CB 4C`), rule R261. -/
  | bit1H
  /-- `BIT 1,L` (`CB 4D`), rule R261. -/
  | bit1L
  /-- `BIT 1,(HL)` (`CB 4E`), rule R262. -/
  | bit1IndHl
  /-- `BIT 1,A` (`CB 4F`), rule R261. -/
  | bit1A
  /-- `BIT 2,B` (`CB 50`), rule R261. -/
  | bit2B
  /-- `BIT 2,C` (`CB 51`), rule R261. -/
  | bit2C
  /-- `BIT 2,D` (`CB 52`), rule R261. -/
  | bit2D
  /-- `BIT 2,E` (`CB 53`), rule R261. -/
  | bit2E
  /-- `BIT 2,H` (`CB 54`), rule R261. -/
  | bit2H
  /-- `BIT 2,L` (`CB 55`), rule R261. -/
  | bit2L
  /-- `BIT 2,(HL)` (`CB 56`), rule R262. -/
  | bit2IndHl
  /-- `BIT 2,A` (`CB 57`), rule R261. -/
  | bit2A
  /-- `BIT 3,B` (`CB 58`), rule R261. -/
  | bit3B
  /-- `BIT 3,C` (`CB 59`), rule R261. -/
  | bit3C
  /-- `BIT 3,D` (`CB 5A`), rule R261. -/
  | bit3D
  /-- `BIT 3,E` (`CB 5B`), rule R261. -/
  | bit3E
  /-- `BIT 3,H` (`CB 5C`), rule R261. -/
  | bit3H
  /-- `BIT 3,L` (`CB 5D`), rule R261. -/
  | bit3L
  /-- `BIT 3,(HL)` (`CB 5E`), rule R262. -/
  | bit3IndHl
  /-- `BIT 3,A` (`CB 5F`), rule R261. -/
  | bit3A
  /-- `BIT 4,B` (`CB 60`), rule R261. -/
  | bit4B
  /-- `BIT 4,C` (`CB 61`), rule R261. -/
  | bit4C
  /-- `BIT 4,D` (`CB 62`), rule R261. -/
  | bit4D
  /-- `BIT 4,E` (`CB 63`), rule R261. -/
  | bit4E
  /-- `BIT 4,H` (`CB 64`), rule R261. -/
  | bit4H
  /-- `BIT 4,L` (`CB 65`), rule R261. -/
  | bit4L
  /-- `BIT 4,(HL)` (`CB 66`), rule R262. -/
  | bit4IndHl
  /-- `BIT 4,A` (`CB 67`), rule R261. -/
  | bit4A
  /-- `BIT 5,B` (`CB 68`), rule R261. -/
  | bit5B
  /-- `BIT 5,C` (`CB 69`), rule R261. -/
  | bit5C
  /-- `BIT 5,D` (`CB 6A`), rule R261. -/
  | bit5D
  /-- `BIT 5,E` (`CB 6B`), rule R261. -/
  | bit5E
  /-- `BIT 5,H` (`CB 6C`), rule R261. -/
  | bit5H
  /-- `BIT 5,L` (`CB 6D`), rule R261. -/
  | bit5L
  /-- `BIT 5,(HL)` (`CB 6E`), rule R262. -/
  | bit5IndHl
  /-- `BIT 5,A` (`CB 6F`), rule R261. -/
  | bit5A
  /-- `BIT 6,B` (`CB 70`), rule R261. -/
  | bit6B
  /-- `BIT 6,C` (`CB 71`), rule R261. -/
  | bit6C
  /-- `BIT 6,D` (`CB 72`), rule R261. -/
  | bit6D
  /-- `BIT 6,E` (`CB 73`), rule R261. -/
  | bit6E
  /-- `BIT 6,H` (`CB 74`), rule R261. -/
  | bit6H
  /-- `BIT 6,L` (`CB 75`), rule R261. -/
  | bit6L
  /-- `BIT 6,(HL)` (`CB 76`), rule R262. -/
  | bit6IndHl
  /-- `BIT 6,A` (`CB 77`), rule R261. -/
  | bit6A
  /-- `BIT 7,B` (`CB 78`), rule R261. -/
  | bit7B
  /-- `BIT 7,C` (`CB 79`), rule R261. -/
  | bit7C
  /-- `BIT 7,D` (`CB 7A`), rule R261. -/
  | bit7D
  /-- `BIT 7,E` (`CB 7B`), rule R261. -/
  | bit7E
  /-- `BIT 7,H` (`CB 7C`), rule R261. -/
  | bit7H
  /-- `BIT 7,L` (`CB 7D`), rule R261. -/
  | bit7L
  /-- `BIT 7,(HL)` (`CB 7E`), rule R262. -/
  | bit7IndHl
  /-- `BIT 7,A` (`CB 7F`), rule R261. -/
  | bit7A
  /-- `RES 0,B` (`CB 80`), rule R263. -/
  | res0B
  /-- `RES 0,C` (`CB 81`), rule R263. -/
  | res0C
  /-- `RES 0,D` (`CB 82`), rule R263. -/
  | res0D
  /-- `RES 0,E` (`CB 83`), rule R263. -/
  | res0E
  /-- `RES 0,H` (`CB 84`), rule R263. -/
  | res0H
  /-- `RES 0,L` (`CB 85`), rule R263. -/
  | res0L
  /-- `RES 0,(HL)` (`CB 86`), rule R264. -/
  | res0IndHl
  /-- `RES 0,A` (`CB 87`), rule R263. -/
  | res0A
  /-- `RES 1,B` (`CB 88`), rule R263. -/
  | res1B
  /-- `RES 1,C` (`CB 89`), rule R263. -/
  | res1C
  /-- `RES 1,D` (`CB 8A`), rule R263. -/
  | res1D
  /-- `RES 1,E` (`CB 8B`), rule R263. -/
  | res1E
  /-- `RES 1,H` (`CB 8C`), rule R263. -/
  | res1H
  /-- `RES 1,L` (`CB 8D`), rule R263. -/
  | res1L
  /-- `RES 1,(HL)` (`CB 8E`), rule R264. -/
  | res1IndHl
  /-- `RES 1,A` (`CB 8F`), rule R263. -/
  | res1A
  /-- `RES 2,B` (`CB 90`), rule R263. -/
  | res2B
  /-- `RES 2,C` (`CB 91`), rule R263. -/
  | res2C
  /-- `RES 2,D` (`CB 92`), rule R263. -/
  | res2D
  /-- `RES 2,E` (`CB 93`), rule R263. -/
  | res2E
  /-- `RES 2,H` (`CB 94`), rule R263. -/
  | res2H
  /-- `RES 2,L` (`CB 95`), rule R263. -/
  | res2L
  /-- `RES 2,(HL)` (`CB 96`), rule R264. -/
  | res2IndHl
  /-- `RES 2,A` (`CB 97`), rule R263. -/
  | res2A
  /-- `RES 3,B` (`CB 98`), rule R263. -/
  | res3B
  /-- `RES 3,C` (`CB 99`), rule R263. -/
  | res3C
  /-- `RES 3,D` (`CB 9A`), rule R263. -/
  | res3D
  /-- `RES 3,E` (`CB 9B`), rule R263. -/
  | res3E
  /-- `RES 3,H` (`CB 9C`), rule R263. -/
  | res3H
  /-- `RES 3,L` (`CB 9D`), rule R263. -/
  | res3L
  /-- `RES 3,(HL)` (`CB 9E`), rule R264. -/
  | res3IndHl
  /-- `RES 3,A` (`CB 9F`), rule R263. -/
  | res3A
  /-- `RES 4,B` (`CB A0`), rule R263. -/
  | res4B
  /-- `RES 4,C` (`CB A1`), rule R263. -/
  | res4C
  /-- `RES 4,D` (`CB A2`), rule R263. -/
  | res4D
  /-- `RES 4,E` (`CB A3`), rule R263. -/
  | res4E
  /-- `RES 4,H` (`CB A4`), rule R263. -/
  | res4H
  /-- `RES 4,L` (`CB A5`), rule R263. -/
  | res4L
  /-- `RES 4,(HL)` (`CB A6`), rule R264. -/
  | res4IndHl
  /-- `RES 4,A` (`CB A7`), rule R263. -/
  | res4A
  /-- `RES 5,B` (`CB A8`), rule R263. -/
  | res5B
  /-- `RES 5,C` (`CB A9`), rule R263. -/
  | res5C
  /-- `RES 5,D` (`CB AA`), rule R263. -/
  | res5D
  /-- `RES 5,E` (`CB AB`), rule R263. -/
  | res5E
  /-- `RES 5,H` (`CB AC`), rule R263. -/
  | res5H
  /-- `RES 5,L` (`CB AD`), rule R263. -/
  | res5L
  /-- `RES 5,(HL)` (`CB AE`), rule R264. -/
  | res5IndHl
  /-- `RES 5,A` (`CB AF`), rule R263. -/
  | res5A
  /-- `RES 6,B` (`CB B0`), rule R263. -/
  | res6B
  /-- `RES 6,C` (`CB B1`), rule R263. -/
  | res6C
  /-- `RES 6,D` (`CB B2`), rule R263. -/
  | res6D
  /-- `RES 6,E` (`CB B3`), rule R263. -/
  | res6E
  /-- `RES 6,H` (`CB B4`), rule R263. -/
  | res6H
  /-- `RES 6,L` (`CB B5`), rule R263. -/
  | res6L
  /-- `RES 6,(HL)` (`CB B6`), rule R264. -/
  | res6IndHl
  /-- `RES 6,A` (`CB B7`), rule R263. -/
  | res6A
  /-- `RES 7,B` (`CB B8`), rule R263. -/
  | res7B
  /-- `RES 7,C` (`CB B9`), rule R263. -/
  | res7C
  /-- `RES 7,D` (`CB BA`), rule R263. -/
  | res7D
  /-- `RES 7,E` (`CB BB`), rule R263. -/
  | res7E
  /-- `RES 7,H` (`CB BC`), rule R263. -/
  | res7H
  /-- `RES 7,L` (`CB BD`), rule R263. -/
  | res7L
  /-- `RES 7,(HL)` (`CB BE`), rule R264. -/
  | res7IndHl
  /-- `RES 7,A` (`CB BF`), rule R263. -/
  | res7A
  /-- `SET 0,B` (`CB C0`), rule R265. -/
  | set0B
  /-- `SET 0,C` (`CB C1`), rule R265. -/
  | set0C
  /-- `SET 0,D` (`CB C2`), rule R265. -/
  | set0D
  /-- `SET 0,E` (`CB C3`), rule R265. -/
  | set0E
  /-- `SET 0,H` (`CB C4`), rule R265. -/
  | set0H
  /-- `SET 0,L` (`CB C5`), rule R265. -/
  | set0L
  /-- `SET 0,(HL)` (`CB C6`), rule R266. -/
  | set0IndHl
  /-- `SET 0,A` (`CB C7`), rule R265. -/
  | set0A
  /-- `SET 1,B` (`CB C8`), rule R265. -/
  | set1B
  /-- `SET 1,C` (`CB C9`), rule R265. -/
  | set1C
  /-- `SET 1,D` (`CB CA`), rule R265. -/
  | set1D
  /-- `SET 1,E` (`CB CB`), rule R265. -/
  | set1E
  /-- `SET 1,H` (`CB CC`), rule R265. -/
  | set1H
  /-- `SET 1,L` (`CB CD`), rule R265. -/
  | set1L
  /-- `SET 1,(HL)` (`CB CE`), rule R266. -/
  | set1IndHl
  /-- `SET 1,A` (`CB CF`), rule R265. -/
  | set1A
  /-- `SET 2,B` (`CB D0`), rule R265. -/
  | set2B
  /-- `SET 2,C` (`CB D1`), rule R265. -/
  | set2C
  /-- `SET 2,D` (`CB D2`), rule R265. -/
  | set2D
  /-- `SET 2,E` (`CB D3`), rule R265. -/
  | set2E
  /-- `SET 2,H` (`CB D4`), rule R265. -/
  | set2H
  /-- `SET 2,L` (`CB D5`), rule R265. -/
  | set2L
  /-- `SET 2,(HL)` (`CB D6`), rule R266. -/
  | set2IndHl
  /-- `SET 2,A` (`CB D7`), rule R265. -/
  | set2A
  /-- `SET 3,B` (`CB D8`), rule R265. -/
  | set3B
  /-- `SET 3,C` (`CB D9`), rule R265. -/
  | set3C
  /-- `SET 3,D` (`CB DA`), rule R265. -/
  | set3D
  /-- `SET 3,E` (`CB DB`), rule R265. -/
  | set3E
  /-- `SET 3,H` (`CB DC`), rule R265. -/
  | set3H
  /-- `SET 3,L` (`CB DD`), rule R265. -/
  | set3L
  /-- `SET 3,(HL)` (`CB DE`), rule R266. -/
  | set3IndHl
  /-- `SET 3,A` (`CB DF`), rule R265. -/
  | set3A
  /-- `SET 4,B` (`CB E0`), rule R265. -/
  | set4B
  /-- `SET 4,C` (`CB E1`), rule R265. -/
  | set4C
  /-- `SET 4,D` (`CB E2`), rule R265. -/
  | set4D
  /-- `SET 4,E` (`CB E3`), rule R265. -/
  | set4E
  /-- `SET 4,H` (`CB E4`), rule R265. -/
  | set4H
  /-- `SET 4,L` (`CB E5`), rule R265. -/
  | set4L
  /-- `SET 4,(HL)` (`CB E6`), rule R266. -/
  | set4IndHl
  /-- `SET 4,A` (`CB E7`), rule R265. -/
  | set4A
  /-- `SET 5,B` (`CB E8`), rule R265. -/
  | set5B
  /-- `SET 5,C` (`CB E9`), rule R265. -/
  | set5C
  /-- `SET 5,D` (`CB EA`), rule R265. -/
  | set5D
  /-- `SET 5,E` (`CB EB`), rule R265. -/
  | set5E
  /-- `SET 5,H` (`CB EC`), rule R265. -/
  | set5H
  /-- `SET 5,L` (`CB ED`), rule R265. -/
  | set5L
  /-- `SET 5,(HL)` (`CB EE`), rule R266. -/
  | set5IndHl
  /-- `SET 5,A` (`CB EF`), rule R265. -/
  | set5A
  /-- `SET 6,B` (`CB F0`), rule R265. -/
  | set6B
  /-- `SET 6,C` (`CB F1`), rule R265. -/
  | set6C
  /-- `SET 6,D` (`CB F2`), rule R265. -/
  | set6D
  /-- `SET 6,E` (`CB F3`), rule R265. -/
  | set6E
  /-- `SET 6,H` (`CB F4`), rule R265. -/
  | set6H
  /-- `SET 6,L` (`CB F5`), rule R265. -/
  | set6L
  /-- `SET 6,(HL)` (`CB F6`), rule R266. -/
  | set6IndHl
  /-- `SET 6,A` (`CB F7`), rule R265. -/
  | set6A
  /-- `SET 7,B` (`CB F8`), rule R265. -/
  | set7B
  /-- `SET 7,C` (`CB F9`), rule R265. -/
  | set7C
  /-- `SET 7,D` (`CB FA`), rule R265. -/
  | set7D
  /-- `SET 7,E` (`CB FB`), rule R265. -/
  | set7E
  /-- `SET 7,H` (`CB FC`), rule R265. -/
  | set7H
  /-- `SET 7,L` (`CB FD`), rule R265. -/
  | set7L
  /-- `SET 7,(HL)` (`CB FE`), rule R266. -/
  | set7IndHl
  /-- `SET 7,A` (`CB FF`), rule R265. -/
  | set7A
deriving DecidableEq, Repr

end Sys2Proof
end

