-- ==== Sys2Proof/WellFormed.lean ====
section
/-! DEFINITION. What an instruction term must satisfy to be an instruction of the machine. The types of the
operands already bound them (rule R114), so one check is left: the prefix byte alone is not an instruction
(rule R244). -/

namespace Sys2Proof

/-- `true` but for the term of the prefix row, whose meaning is that of the extended row it selects: that row is
the instruction (rules R128, R244). -/
def Instr.wellFormed : Instr → Bool
  | .prefixCb _ => false
  | _ => true

end Sys2Proof
end

