-- ==== Sys2Proof/Decode.lean ====
section
/-! DEFINITION. The decoder, total on any bytes, written from the field tables of rules R112 to R121, and after
it an encoder written row by row from the opcode grids of rule R122. -/

namespace Sys2Proof

/-! ### Instructions of one shape

Each function below names the instruction of one row group of rules R117 to R121 that the code fields select. -/

/-- `LD r,r'` (rule R140). -/
def Instr.ldRegReg (dst src : Reg8) : Instr :=
  match dst, src with
  | .b, .b => .ldBB | .b, .c => .ldBC | .b, .d => .ldBD | .b, .e => .ldBE | .b, .h => .ldBH | .b, .l => .ldBL | .b, .a => .ldBA
  | .c, .b => .ldCB | .c, .c => .ldCC | .c, .d => .ldCD | .c, .e => .ldCE | .c, .h => .ldCH | .c, .l => .ldCL | .c, .a => .ldCA
  | .d, .b => .ldDB | .d, .c => .ldDC | .d, .d => .ldDD | .d, .e => .ldDE | .d, .h => .ldDH | .d, .l => .ldDL | .d, .a => .ldDA
  | .e, .b => .ldEB | .e, .c => .ldEC | .e, .d => .ldED | .e, .e => .ldEE | .e, .h => .ldEH | .e, .l => .ldEL | .e, .a => .ldEA
  | .h, .b => .ldHB | .h, .c => .ldHC | .h, .d => .ldHD | .h, .e => .ldHE | .h, .h => .ldHH | .h, .l => .ldHL | .h, .a => .ldHA
  | .l, .b => .ldLB | .l, .c => .ldLC | .l, .d => .ldLD | .l, .e => .ldLE | .l, .h => .ldLH | .l, .l => .ldLL | .l, .a => .ldLA
  | .a, .b => .ldAB | .a, .c => .ldAC | .a, .d => .ldAD | .a, .e => .ldAE | .a, .h => .ldAH | .a, .l => .ldAL | .a, .a => .ldAA

/-- `LD r,n` (rule R141). -/
def Instr.ldRegImm (r : Reg8) (n : Byte) : Instr :=
  match r with
  | .b => .ldBImm n | .c => .ldCImm n | .d => .ldDImm n | .e => .ldEImm n | .h => .ldHImm n | .l => .ldLImm n | .a => .ldAImm n

/-- `LD r,(HL)` (rule R142). -/
def Instr.ldRegHl (r : Reg8) : Instr :=
  match r with
  | .b => .ldBIndHl | .c => .ldCIndHl | .d => .ldDIndHl | .e => .ldEIndHl | .h => .ldHIndHl | .l => .ldLIndHl | .a => .ldAIndHl

/-- `LD (HL),r` (rule R143). -/
def Instr.ldHlReg (r : Reg8) : Instr :=
  match r with
  | .b => .ldIndHlB | .c => .ldIndHlC | .d => .ldIndHlD | .e => .ldIndHlE | .h => .ldIndHlH | .l => .ldIndHlL | .a => .ldIndHlA

/-- `INC r` (rule R215). -/
def Instr.incReg (r : Reg8) : Instr :=
  match r with
  | .b => .incB | .c => .incC | .d => .incD | .e => .incE | .h => .incH | .l => .incL | .a => .incA

/-- `DEC r` (rule R217). -/
def Instr.decReg (r : Reg8) : Instr :=
  match r with
  | .b => .decB | .c => .decC | .d => .decD | .e => .decE | .h => .decH | .l => .decL | .a => .decA

/-- The accumulator operations on a register (rule R119). -/
def Instr.aluReg (k : AluOp) (r : Reg8) : Instr :=
  match k, r with
  | .add, .b => .addAB | .add, .c => .addAC | .add, .d => .addAD | .add, .e => .addAE | .add, .h => .addAH | .add, .l => .addAL | .add, .a => .addAA
  | .adc, .b => .adcAB | .adc, .c => .adcAC | .adc, .d => .adcAD | .adc, .e => .adcAE | .adc, .h => .adcAH | .adc, .l => .adcAL | .adc, .a => .adcAA
  | .sub, .b => .subB | .sub, .c => .subC | .sub, .d => .subD | .sub, .e => .subE | .sub, .h => .subH | .sub, .l => .subL | .sub, .a => .subA
  | .sbc, .b => .sbcAB | .sbc, .c => .sbcAC | .sbc, .d => .sbcAD | .sbc, .e => .sbcAE | .sbc, .h => .sbcAH | .sbc, .l => .sbcAL | .sbc, .a => .sbcAA
  | .and, .b => .andB | .and, .c => .andC | .and, .d => .andD | .and, .e => .andE | .and, .h => .andH | .and, .l => .andL | .and, .a => .andA
  | .xor, .b => .xorB | .xor, .c => .xorC | .xor, .d => .xorD | .xor, .e => .xorE | .xor, .h => .xorH | .xor, .l => .xorL | .xor, .a => .xorA
  | .or, .b => .orB | .or, .c => .orC | .or, .d => .orD | .or, .e => .orE | .or, .h => .orH | .or, .l => .orL | .or, .a => .orA
  | .cp, .b => .cpB | .cp, .c => .cpC | .cp, .d => .cpD | .cp, .e => .cpE | .cp, .h => .cpH | .cp, .l => .cpL | .cp, .a => .cpA

/-- The accumulator operations on the byte at HL (rule R119). -/
def Instr.aluHl (k : AluOp) : Instr :=
  match k with
  | .add => .addAIndHl | .adc => .adcAIndHl | .sub => .subIndHl | .sbc => .sbcAIndHl | .and => .andIndHl | .xor => .xorIndHl | .or => .orIndHl | .cp => .cpIndHl

/-- The accumulator operations on an immediate (rule R120). -/
def Instr.aluImm (k : AluOp) (n : Byte) : Instr :=
  match k with
  | .add => .addAImm n | .adc => .adcAImm n | .sub => .subImm n | .sbc => .sbcAImm n | .and => .andImm n | .xor => .xorImm n | .or => .orImm n | .cp => .cpImm n

/-- `LD rp,nn` (rule R170). -/
def Instr.ldPairImm (p : Pair) (nn : Word) : Instr :=
  match p with
  | .bc => .ldBcImm nn | .de => .ldDeImm nn | .hl => .ldHlImm nn | .sp => .ldSpImm nn

/-- `ADD HL,rp` (rule R230). -/
def Instr.addHlPair (p : Pair) : Instr :=
  match p with
  | .bc => .addHlBc | .de => .addHlDe | .hl => .addHlHl | .sp => .addHlSp

/-- `INC rp` (rule R231). -/
def Instr.incPair (p : Pair) : Instr :=
  match p with
  | .bc => .incBc | .de => .incDe | .hl => .incHl | .sp => .incSp

/-- `DEC rp` (rule R232). -/
def Instr.decPair (p : Pair) : Instr :=
  match p with
  | .bc => .decBc | .de => .decDe | .hl => .decHl | .sp => .decSp

/-- `POP rp2` (rule R175). -/
def Instr.popPair (p : StackPair) : Instr :=
  match p with
  | .bc => .popBc | .de => .popDe | .hl => .popHl | .af => .popAf

/-- `PUSH rp2` (rule R174). -/
def Instr.pushPair (p : StackPair) : Instr :=
  match p with
  | .bc => .pushBc | .de => .pushDe | .hl => .pushHl | .af => .pushAf

/-- `JR cc,e` (rule R284). -/
def Instr.jrCond (cc : Cond) (e : Byte) : Instr :=
  match cc with
  | .nz => .jrNzRel e | .z => .jrZRel e | .nc => .jrNcRel e | .c => .jrCRel e

/-- `JP cc,nn` (rule R281). -/
def Instr.jpCond (cc : Cond) (nn : Word) : Instr :=
  match cc with
  | .nz => .jpNzImm nn | .z => .jpZImm nn | .nc => .jpNcImm nn | .c => .jpCImm nn

/-- `CALL cc,nn` (rule R286). -/
def Instr.callCond (cc : Cond) (nn : Word) : Instr :=
  match cc with
  | .nz => .callNzImm nn | .z => .callZImm nn | .nc => .callNcImm nn | .c => .callCImm nn

/-- `RET cc` (rule R288). -/
def Instr.retCond (cc : Cond) : Instr :=
  match cc with
  | .nz => .retNz | .z => .retZ | .nc => .retNc | .c => .retC

/-- `RST t` with `t = 8 * y` (rule R290). -/
def Instr.rst (y : Fin 8) : Instr :=
  match y.val with
  | 0 => .rst00 | 1 => .rst08 | 2 => .rst10 | 3 => .rst18 | 4 => .rst20 | 5 => .rst28 | 6 => .rst30 | _ => .rst38

/-- The illegal opcodes (rule R316). -/
def Instr.illegal (k : IllegalOpcode) : Instr :=
  match k with
  | .xD3 => .illegalD3 | .xDB => .illegalDB | .xDD => .illegalDD | .xE3 => .illegalE3 | .xE4 => .illegalE4 | .xEB => .illegalEB | .xEC => .illegalEC | .xED => .illegalED | .xF4 => .illegalF4 | .xFC => .illegalFC | .xFD => .illegalFD

/-- The rotates and shifts of a register (rule R121, `x = 0`). -/
def Instr.rotReg (k : RotOp) (r : Reg8) : Instr :=
  match k, r with
  | .rlc, .b => .rlcB | .rlc, .c => .rlcC | .rlc, .d => .rlcD | .rlc, .e => .rlcE | .rlc, .h => .rlcH | .rlc, .l => .rlcL | .rlc, .a => .rlcA
  | .rrc, .b => .rrcB | .rrc, .c => .rrcC | .rrc, .d => .rrcD | .rrc, .e => .rrcE | .rrc, .h => .rrcH | .rrc, .l => .rrcL | .rrc, .a => .rrcA
  | .rl, .b => .rlB | .rl, .c => .rlC | .rl, .d => .rlD | .rl, .e => .rlE | .rl, .h => .rlH | .rl, .l => .rlL | .rl, .a => .rlA
  | .rr, .b => .rrB | .rr, .c => .rrC | .rr, .d => .rrD | .rr, .e => .rrE | .rr, .h => .rrH | .rr, .l => .rrL | .rr, .a => .rrA
  | .sla, .b => .slaB | .sla, .c => .slaC | .sla, .d => .slaD | .sla, .e => .slaE | .sla, .h => .slaH | .sla, .l => .slaL | .sla, .a => .slaA
  | .sra, .b => .sraB | .sra, .c => .sraC | .sra, .d => .sraD | .sra, .e => .sraE | .sra, .h => .sraH | .sra, .l => .sraL | .sra, .a => .sraA
  | .swap, .b => .swapB | .swap, .c => .swapC | .swap, .d => .swapD | .swap, .e => .swapE | .swap, .h => .swapH | .swap, .l => .swapL | .swap, .a => .swapA
  | .srl, .b => .srlB | .srl, .c => .srlC | .srl, .d => .srlD | .srl, .e => .srlE | .srl, .h => .srlH | .srl, .l => .srlL | .srl, .a => .srlA

/-- The rotates and shifts of the byte at HL (rule R121, `x = 0`, `z = 6`). -/
def Instr.rotHl (k : RotOp) : Instr :=
  match k with
  | .rlc => .rlcIndHl | .rrc => .rrcIndHl | .rl => .rlIndHl | .rr => .rrIndHl | .sla => .slaIndHl | .sra => .sraIndHl | .swap => .swapIndHl | .srl => .srlIndHl

/-- `BIT b,r` (rule R121). -/
def Instr.bitReg (b : Fin 8) (r : Reg8) : Instr :=
  match r, b.val with
  | .b, 0 => .bit0B | .b, 1 => .bit1B | .b, 2 => .bit2B | .b, 3 => .bit3B | .b, 4 => .bit4B | .b, 5 => .bit5B | .b, 6 => .bit6B | .b, _ => .bit7B
  | .c, 0 => .bit0C | .c, 1 => .bit1C | .c, 2 => .bit2C | .c, 3 => .bit3C | .c, 4 => .bit4C | .c, 5 => .bit5C | .c, 6 => .bit6C | .c, _ => .bit7C
  | .d, 0 => .bit0D | .d, 1 => .bit1D | .d, 2 => .bit2D | .d, 3 => .bit3D | .d, 4 => .bit4D | .d, 5 => .bit5D | .d, 6 => .bit6D | .d, _ => .bit7D
  | .e, 0 => .bit0E | .e, 1 => .bit1E | .e, 2 => .bit2E | .e, 3 => .bit3E | .e, 4 => .bit4E | .e, 5 => .bit5E | .e, 6 => .bit6E | .e, _ => .bit7E
  | .h, 0 => .bit0H | .h, 1 => .bit1H | .h, 2 => .bit2H | .h, 3 => .bit3H | .h, 4 => .bit4H | .h, 5 => .bit5H | .h, 6 => .bit6H | .h, _ => .bit7H
  | .l, 0 => .bit0L | .l, 1 => .bit1L | .l, 2 => .bit2L | .l, 3 => .bit3L | .l, 4 => .bit4L | .l, 5 => .bit5L | .l, 6 => .bit6L | .l, _ => .bit7L
  | .a, 0 => .bit0A | .a, 1 => .bit1A | .a, 2 => .bit2A | .a, 3 => .bit3A | .a, 4 => .bit4A | .a, 5 => .bit5A | .a, 6 => .bit6A | .a, _ => .bit7A

/-- `BIT b,(HL)` (rule R121). -/
def Instr.bitHl (b : Fin 8) : Instr :=
  match b.val with
  | 0 => .bit0IndHl | 1 => .bit1IndHl | 2 => .bit2IndHl | 3 => .bit3IndHl | 4 => .bit4IndHl | 5 => .bit5IndHl | 6 => .bit6IndHl | _ => .bit7IndHl

/-- `RES b,r` (rule R121). -/
def Instr.resReg (b : Fin 8) (r : Reg8) : Instr :=
  match r, b.val with
  | .b, 0 => .res0B | .b, 1 => .res1B | .b, 2 => .res2B | .b, 3 => .res3B | .b, 4 => .res4B | .b, 5 => .res5B | .b, 6 => .res6B | .b, _ => .res7B
  | .c, 0 => .res0C | .c, 1 => .res1C | .c, 2 => .res2C | .c, 3 => .res3C | .c, 4 => .res4C | .c, 5 => .res5C | .c, 6 => .res6C | .c, _ => .res7C
  | .d, 0 => .res0D | .d, 1 => .res1D | .d, 2 => .res2D | .d, 3 => .res3D | .d, 4 => .res4D | .d, 5 => .res5D | .d, 6 => .res6D | .d, _ => .res7D
  | .e, 0 => .res0E | .e, 1 => .res1E | .e, 2 => .res2E | .e, 3 => .res3E | .e, 4 => .res4E | .e, 5 => .res5E | .e, 6 => .res6E | .e, _ => .res7E
  | .h, 0 => .res0H | .h, 1 => .res1H | .h, 2 => .res2H | .h, 3 => .res3H | .h, 4 => .res4H | .h, 5 => .res5H | .h, 6 => .res6H | .h, _ => .res7H
  | .l, 0 => .res0L | .l, 1 => .res1L | .l, 2 => .res2L | .l, 3 => .res3L | .l, 4 => .res4L | .l, 5 => .res5L | .l, 6 => .res6L | .l, _ => .res7L
  | .a, 0 => .res0A | .a, 1 => .res1A | .a, 2 => .res2A | .a, 3 => .res3A | .a, 4 => .res4A | .a, 5 => .res5A | .a, 6 => .res6A | .a, _ => .res7A

/-- `RES b,(HL)` (rule R121). -/
def Instr.resHl (b : Fin 8) : Instr :=
  match b.val with
  | 0 => .res0IndHl | 1 => .res1IndHl | 2 => .res2IndHl | 3 => .res3IndHl | 4 => .res4IndHl | 5 => .res5IndHl | 6 => .res6IndHl | _ => .res7IndHl

/-- `SET b,r` (rule R121). -/
def Instr.setReg (b : Fin 8) (r : Reg8) : Instr :=
  match r, b.val with
  | .b, 0 => .set0B | .b, 1 => .set1B | .b, 2 => .set2B | .b, 3 => .set3B | .b, 4 => .set4B | .b, 5 => .set5B | .b, 6 => .set6B | .b, _ => .set7B
  | .c, 0 => .set0C | .c, 1 => .set1C | .c, 2 => .set2C | .c, 3 => .set3C | .c, 4 => .set4C | .c, 5 => .set5C | .c, 6 => .set6C | .c, _ => .set7C
  | .d, 0 => .set0D | .d, 1 => .set1D | .d, 2 => .set2D | .d, 3 => .set3D | .d, 4 => .set4D | .d, 5 => .set5D | .d, 6 => .set6D | .d, _ => .set7D
  | .e, 0 => .set0E | .e, 1 => .set1E | .e, 2 => .set2E | .e, 3 => .set3E | .e, 4 => .set4E | .e, 5 => .set5E | .e, 6 => .set6E | .e, _ => .set7E
  | .h, 0 => .set0H | .h, 1 => .set1H | .h, 2 => .set2H | .h, 3 => .set3H | .h, 4 => .set4H | .h, 5 => .set5H | .h, 6 => .set6H | .h, _ => .set7H
  | .l, 0 => .set0L | .l, 1 => .set1L | .l, 2 => .set2L | .l, 3 => .set3L | .l, 4 => .set4L | .l, 5 => .set5L | .l, 6 => .set6L | .l, _ => .set7L
  | .a, 0 => .set0A | .a, 1 => .set1A | .a, 2 => .set2A | .a, 3 => .set3A | .a, 4 => .set4A | .a, 5 => .set5A | .a, 6 => .set6A | .a, _ => .set7A

/-- `SET b,(HL)` (rule R121). -/
def Instr.setHl (b : Fin 8) : Instr :=
  match b.val with
  | 0 => .set0IndHl | 1 => .set1IndHl | 2 => .set2IndHl | 3 => .set3IndHl | 4 => .set4IndHl | 5 => .set5IndHl | 6 => .set6IndHl | _ => .set7IndHl

/-! ### The decoder -/

/-- Entry `op2` of the extended table (rules R121, R244). -/
def decodeExtended (op2 : Byte) : Instr :=
  let y := fieldY op2
  match (fieldX op2).toNat, Reg8.ofCode (fieldZ op2) with
  | 0, some r => .rotReg (RotOp.ofCode y) r
  | 0, none => .rotHl (RotOp.ofCode y)
  | 1, some r => .bitReg y.toFin r
  | 1, none => .bitHl y.toFin
  | 2, some r => .resReg y.toFin r
  | 2, none => .resHl y.toFin
  | _, some r => .setReg y.toFin r
  | _, none => .setHl y.toFin

/-- The quarter `x = 0` of the primary table (rule R117); `n1` and `n2` are the bytes after the opcode. -/
def decodeX0 (op n1 n2 : Byte) : Instr :=
  let y := (fieldY op).toNat
  let nn := joinBytes n2 n1
  let pair := Pair.ofCode (fieldP op)
  match (fieldZ op).toNat with
  | 0 =>
    match y with
    | 0 => .nop
    | 1 => .ldIndAbsSp nn
    | 2 => .stop n1
    | 3 => .jrRel n1
    | _ => .jrCond (Cond.ofCode (op.extractLsb' 3 2)) n1
  | 1 => if fieldQ op then .addHlPair pair else .ldPairImm pair nn
  | 2 =>
    match fieldQ op, pair with
    | false, .bc => .ldIndBcA
    | false, .de => .ldIndDeA
    | false, .hl => .ldIndHlIncA
    | false, .sp => .ldIndHlDecA
    | true, .bc => .ldAIndBc
    | true, .de => .ldAIndDe
    | true, .hl => .ldAIndHlInc
    | true, .sp => .ldAIndHlDec
  | 3 => if fieldQ op then .decPair pair else .incPair pair
  | 4 =>
    match Reg8.ofCode (fieldY op) with
    | some r => .incReg r
    | none => .incIndHl
  | 5 =>
    match Reg8.ofCode (fieldY op) with
    | some r => .decReg r
    | none => .decIndHl
  | 6 =>
    match Reg8.ofCode (fieldY op) with
    | some r => .ldRegImm r n1
    | none => .ldIndHlImm n1
  | _ =>
    match y with
    | 0 => .rlca
    | 1 => .rrca
    | 2 => .rla
    | 3 => .rra
    | 4 => .daa
    | 5 => .cpl
    | 6 => .scf
    | _ => .ccf

/-- The quarter `x = 1` of the primary table: the register loads, and HALT in the place where both operands
would be memory (rule R118). -/
def decodeX1 (op : Byte) : Instr :=
  match Reg8.ofCode (fieldY op), Reg8.ofCode (fieldZ op) with
  | some dst, some src => .ldRegReg dst src
  | some dst, none => .ldRegHl dst
  | none, some src => .ldHlReg src
  | none, none => .halt

/-- The quarter `x = 2` of the primary table: the accumulator operations (rule R119). -/
def decodeX2 (op : Byte) : Instr :=
  match Reg8.ofCode (fieldZ op) with
  | some r => .aluReg (AluOp.ofCode (fieldY op)) r
  | none => .aluHl (AluOp.ofCode (fieldY op))

/-- The quarter `x = 3` of the primary table (rule R120). -/
def decodeX3 (op n1 n2 : Byte) : Instr :=
  let y := (fieldY op).toNat
  let nn := joinBytes n2 n1
  let cond := Cond.ofCode (op.extractLsb' 3 2)
  match (fieldZ op).toNat with
  | 0 =>
    match y with
    | 4 => .ldhIndImmA n1
    | 5 => .addSpRel n1
    | 6 => .ldhAIndImm n1
    | 7 => .ldHlSpRel n1
    | _ => .retCond cond
  | 1 =>
    match fieldQ op, (fieldP op).toNat with
    | false, _ => .popPair (StackPair.ofCode (fieldP op))
    | true, 0 => .ret
    | true, 1 => .reti
    | true, 2 => .jpHl
    | true, _ => .ldSpHl
  | 2 =>
    match y with
    | 4 => .ldhIndCA
    | 5 => .ldIndAbsA nn
    | 6 => .ldhAIndC
    | 7 => .ldAIndAbs nn
    | _ => .jpCond cond nn
  | 3 =>
    match y with
    | 0 => .jpImm nn
    | 1 => decodeExtended n1
    | 2 => .illegal .xD3
    | 3 => .illegal .xDB
    | 4 => .illegal .xE3
    | 5 => .illegal .xEB
    | 6 => .di
    | _ => .ei
  | 4 =>
    match y with
    | 4 => .illegal .xE4
    | 5 => .illegal .xEC
    | 6 => .illegal .xF4
    | 7 => .illegal .xFC
    | _ => .callCond cond nn
  | 5 =>
    match fieldQ op, (fieldP op).toNat with
    | false, _ => .pushPair (StackPair.ofCode (fieldP op))
    | true, 0 => .callImm nn
    | true, 1 => .illegal .xDD
    | true, 2 => .illegal .xED
    | true, _ => .illegal .xFD
  | 6 => .aluImm (AluOp.ofCode (fieldY op)) n1
  | _ => .rst (fieldY op).toFin

/-- The instruction whose first byte is `op` and whose next two bytes, as far as it has them, are `n1` and `n2`
(rule R113). Total: every byte string of that shape is an instruction or one of the illegal opcodes. -/
def decodeBytes (op n1 n2 : Byte) : Instr :=
  match (fieldX op).toNat with
  | 0 => decodeX0 op n1 n2
  | 1 => decodeX1 op
  | 2 => decodeX2 op
  | _ => decodeX3 op n1 n2

/-- The length in bytes, a function of the first byte alone (rules R111, R123). -/
def lengthOf (op : Byte) : Nat :=
  let y := (fieldY op).toNat
  match (fieldX op).toNat, (fieldZ op).toNat with
  | 0, 0 => if y = 0 then 1 else if y = 1 then 3 else 2
  | 0, 1 => if fieldQ op then 1 else 3
  | 0, 6 => 2
  | 3, 0 => if y < 4 then 1 else 2
  | 3, 2 => if y = 4 ∨ y = 6 then 1 else 3
  | 3, 3 => if y = 0 then 3 else if y = 1 then 2 else 1
  | 3, 4 => if y < 4 then 3 else 1
  | 3, 5 => if y = 1 then 3 else 1
  | 3, 6 => 2
  | _, _ => 1

/-- Why a byte string is no instruction. -/
inductive DecodeReject where
  /-- There is no byte at all. -/
  | empty
  /-- The instruction that starts with `opcode` needs `missing` more bytes (rule R111). -/
  | truncated (opcode : Byte) (missing : Nat)
deriving DecidableEq, Repr

/-- The instruction at the head of a byte string and the bytes after it, or the reason there is none. -/
def decode : List Byte → Except DecodeReject (Instr × List Byte)
  | [] => .error .empty
  | op :: rest =>
    if rest.length + 1 < lengthOf op then .error (.truncated op (lengthOf op - (rest.length + 1)))
    else .ok (decodeBytes op (rest.getD 0 0) (rest.getD 1 0), rest.drop (lengthOf op - 1))

/-! ### Words of the opcode table -/

/-- The bytes in memory order of a word of the opcode table, the bytes past its own ones zero. The table numbers
an extended row as `byte0 << 8 | byte1` with `byte0 = 0xCB` (rule R128); every other row gives the opcode byte
alone, and any further byte would count on from it. -/
def tableWordBytes (nbits w : Nat) : List Byte :=
  if nbits = 16 ∧ w / 256 = 0xCB then [0xCB, BitVec.ofNat 8 w, 0]
  else
    let v := w % 2 ^ nbits
    [BitVec.ofNat 8 v, BitVec.ofNat 8 (v / 256), BitVec.ofNat 8 (v / 65536)]

/-- The instruction the decoder reads from a word of the opcode table. -/
def decodeTableWord (nbits w : Nat) : Option Instr :=
  match decode (tableWordBytes nbits w) with
  | .ok (i, _) => some i
  | .error _ => none

/-! ### The encoder -/

/-- The bytes of an instruction, row by row from the grids of rule R122 and the formats of rule R114. -/
def encode (i : Instr) : List Byte :=
  match i with
  | .nop => [0x00]
  | .ldBcImm nn => [0x01, loByte nn, hiByte nn]
  | .ldIndBcA => [0x02]
  | .incBc => [0x03]
  | .incB => [0x04]
  | .decB => [0x05]
  | .ldBImm n => [0x06, n]
  | .rlca => [0x07]
  | .ldIndAbsSp nn => [0x08, loByte nn, hiByte nn]
  | .addHlBc => [0x09]
  | .ldAIndBc => [0x0A]
  | .decBc => [0x0B]
  | .incC => [0x0C]
  | .decC => [0x0D]
  | .ldCImm n => [0x0E, n]
  | .rrca => [0x0F]
  | .stop n => [0x10, n]
  | .ldDeImm nn => [0x11, loByte nn, hiByte nn]
  | .ldIndDeA => [0x12]
  | .incDe => [0x13]
  | .incD => [0x14]
  | .decD => [0x15]
  | .ldDImm n => [0x16, n]
  | .rla => [0x17]
  | .jrRel e => [0x18, e]
  | .addHlDe => [0x19]
  | .ldAIndDe => [0x1A]
  | .decDe => [0x1B]
  | .incE => [0x1C]
  | .decE => [0x1D]
  | .ldEImm n => [0x1E, n]
  | .rra => [0x1F]
  | .jrNzRel e => [0x20, e]
  | .ldHlImm nn => [0x21, loByte nn, hiByte nn]
  | .ldIndHlIncA => [0x22]
  | .incHl => [0x23]
  | .incH => [0x24]
  | .decH => [0x25]
  | .ldHImm n => [0x26, n]
  | .daa => [0x27]
  | .jrZRel e => [0x28, e]
  | .addHlHl => [0x29]
  | .ldAIndHlInc => [0x2A]
  | .decHl => [0x2B]
  | .incL => [0x2C]
  | .decL => [0x2D]
  | .ldLImm n => [0x2E, n]
  | .cpl => [0x2F]
  | .jrNcRel e => [0x30, e]
  | .ldSpImm nn => [0x31, loByte nn, hiByte nn]
  | .ldIndHlDecA => [0x32]
  | .incSp => [0x33]
  | .incIndHl => [0x34]
  | .decIndHl => [0x35]
  | .ldIndHlImm n => [0x36, n]
  | .scf => [0x37]
  | .jrCRel e => [0x38, e]
  | .addHlSp => [0x39]
  | .ldAIndHlDec => [0x3A]
  | .decSp => [0x3B]
  | .incA => [0x3C]
  | .decA => [0x3D]
  | .ldAImm n => [0x3E, n]
  | .ccf => [0x3F]
  | .ldBB => [0x40]
  | .ldBC => [0x41]
  | .ldBD => [0x42]
  | .ldBE => [0x43]
  | .ldBH => [0x44]
  | .ldBL => [0x45]
  | .ldBIndHl => [0x46]
  | .ldBA => [0x47]
  | .ldCB => [0x48]
  | .ldCC => [0x49]
  | .ldCD => [0x4A]
  | .ldCE => [0x4B]
  | .ldCH => [0x4C]
  | .ldCL => [0x4D]
  | .ldCIndHl => [0x4E]
  | .ldCA => [0x4F]
  | .ldDB => [0x50]
  | .ldDC => [0x51]
  | .ldDD => [0x52]
  | .ldDE => [0x53]
  | .ldDH => [0x54]
  | .ldDL => [0x55]
  | .ldDIndHl => [0x56]
  | .ldDA => [0x57]
  | .ldEB => [0x58]
  | .ldEC => [0x59]
  | .ldED => [0x5A]
  | .ldEE => [0x5B]
  | .ldEH => [0x5C]
  | .ldEL => [0x5D]
  | .ldEIndHl => [0x5E]
  | .ldEA => [0x5F]
  | .ldHB => [0x60]
  | .ldHC => [0x61]
  | .ldHD => [0x62]
  | .ldHE => [0x63]
  | .ldHH => [0x64]
  | .ldHL => [0x65]
  | .ldHIndHl => [0x66]
  | .ldHA => [0x67]
  | .ldLB => [0x68]
  | .ldLC => [0x69]
  | .ldLD => [0x6A]
  | .ldLE => [0x6B]
  | .ldLH => [0x6C]
  | .ldLL => [0x6D]
  | .ldLIndHl => [0x6E]
  | .ldLA => [0x6F]
  | .ldIndHlB => [0x70]
  | .ldIndHlC => [0x71]
  | .ldIndHlD => [0x72]
  | .ldIndHlE => [0x73]
  | .ldIndHlH => [0x74]
  | .ldIndHlL => [0x75]
  | .halt => [0x76]
  | .ldIndHlA => [0x77]
  | .ldAB => [0x78]
  | .ldAC => [0x79]
  | .ldAD => [0x7A]
  | .ldAE => [0x7B]
  | .ldAH => [0x7C]
  | .ldAL => [0x7D]
  | .ldAIndHl => [0x7E]
  | .ldAA => [0x7F]
  | .addAB => [0x80]
  | .addAC => [0x81]
  | .addAD => [0x82]
  | .addAE => [0x83]
  | .addAH => [0x84]
  | .addAL => [0x85]
  | .addAIndHl => [0x86]
  | .addAA => [0x87]
  | .adcAB => [0x88]
  | .adcAC => [0x89]
  | .adcAD => [0x8A]
  | .adcAE => [0x8B]
  | .adcAH => [0x8C]
  | .adcAL => [0x8D]
  | .adcAIndHl => [0x8E]
  | .adcAA => [0x8F]
  | .subB => [0x90]
  | .subC => [0x91]
  | .subD => [0x92]
  | .subE => [0x93]
  | .subH => [0x94]
  | .subL => [0x95]
  | .subIndHl => [0x96]
  | .subA => [0x97]
  | .sbcAB => [0x98]
  | .sbcAC => [0x99]
  | .sbcAD => [0x9A]
  | .sbcAE => [0x9B]
  | .sbcAH => [0x9C]
  | .sbcAL => [0x9D]
  | .sbcAIndHl => [0x9E]
  | .sbcAA => [0x9F]
  | .andB => [0xA0]
  | .andC => [0xA1]
  | .andD => [0xA2]
  | .andE => [0xA3]
  | .andH => [0xA4]
  | .andL => [0xA5]
  | .andIndHl => [0xA6]
  | .andA => [0xA7]
  | .xorB => [0xA8]
  | .xorC => [0xA9]
  | .xorD => [0xAA]
  | .xorE => [0xAB]
  | .xorH => [0xAC]
  | .xorL => [0xAD]
  | .xorIndHl => [0xAE]
  | .xorA => [0xAF]
  | .orB => [0xB0]
  | .orC => [0xB1]
  | .orD => [0xB2]
  | .orE => [0xB3]
  | .orH => [0xB4]
  | .orL => [0xB5]
  | .orIndHl => [0xB6]
  | .orA => [0xB7]
  | .cpB => [0xB8]
  | .cpC => [0xB9]
  | .cpD => [0xBA]
  | .cpE => [0xBB]
  | .cpH => [0xBC]
  | .cpL => [0xBD]
  | .cpIndHl => [0xBE]
  | .cpA => [0xBF]
  | .retNz => [0xC0]
  | .popBc => [0xC1]
  | .jpNzImm nn => [0xC2, loByte nn, hiByte nn]
  | .jpImm nn => [0xC3, loByte nn, hiByte nn]
  | .callNzImm nn => [0xC4, loByte nn, hiByte nn]
  | .pushBc => [0xC5]
  | .addAImm n => [0xC6, n]
  | .rst00 => [0xC7]
  | .retZ => [0xC8]
  | .ret => [0xC9]
  | .jpZImm nn => [0xCA, loByte nn, hiByte nn]
  | .prefixCb op2 => [0xCB, op2]
  | .callZImm nn => [0xCC, loByte nn, hiByte nn]
  | .callImm nn => [0xCD, loByte nn, hiByte nn]
  | .adcAImm n => [0xCE, n]
  | .rst08 => [0xCF]
  | .retNc => [0xD0]
  | .popDe => [0xD1]
  | .jpNcImm nn => [0xD2, loByte nn, hiByte nn]
  | .illegalD3 => [0xD3]
  | .callNcImm nn => [0xD4, loByte nn, hiByte nn]
  | .pushDe => [0xD5]
  | .subImm n => [0xD6, n]
  | .rst10 => [0xD7]
  | .retC => [0xD8]
  | .reti => [0xD9]
  | .jpCImm nn => [0xDA, loByte nn, hiByte nn]
  | .illegalDB => [0xDB]
  | .callCImm nn => [0xDC, loByte nn, hiByte nn]
  | .illegalDD => [0xDD]
  | .sbcAImm n => [0xDE, n]
  | .rst18 => [0xDF]
  | .ldhIndImmA n => [0xE0, n]
  | .popHl => [0xE1]
  | .ldhIndCA => [0xE2]
  | .illegalE3 => [0xE3]
  | .illegalE4 => [0xE4]
  | .pushHl => [0xE5]
  | .andImm n => [0xE6, n]
  | .rst20 => [0xE7]
  | .addSpRel e => [0xE8, e]
  | .jpHl => [0xE9]
  | .ldIndAbsA nn => [0xEA, loByte nn, hiByte nn]
  | .illegalEB => [0xEB]
  | .illegalEC => [0xEC]
  | .illegalED => [0xED]
  | .xorImm n => [0xEE, n]
  | .rst28 => [0xEF]
  | .ldhAIndImm n => [0xF0, n]
  | .popAf => [0xF1]
  | .ldhAIndC => [0xF2]
  | .di => [0xF3]
  | .illegalF4 => [0xF4]
  | .pushAf => [0xF5]
  | .orImm n => [0xF6, n]
  | .rst30 => [0xF7]
  | .ldHlSpRel e => [0xF8, e]
  | .ldSpHl => [0xF9]
  | .ldAIndAbs nn => [0xFA, loByte nn, hiByte nn]
  | .ei => [0xFB]
  | .illegalFC => [0xFC]
  | .illegalFD => [0xFD]
  | .cpImm n => [0xFE, n]
  | .rst38 => [0xFF]
  | .rlcB => [0xCB, 0x00]
  | .rlcC => [0xCB, 0x01]
  | .rlcD => [0xCB, 0x02]
  | .rlcE => [0xCB, 0x03]
  | .rlcH => [0xCB, 0x04]
  | .rlcL => [0xCB, 0x05]
  | .rlcIndHl => [0xCB, 0x06]
  | .rlcA => [0xCB, 0x07]
  | .rrcB => [0xCB, 0x08]
  | .rrcC => [0xCB, 0x09]
  | .rrcD => [0xCB, 0x0A]
  | .rrcE => [0xCB, 0x0B]
  | .rrcH => [0xCB, 0x0C]
  | .rrcL => [0xCB, 0x0D]
  | .rrcIndHl => [0xCB, 0x0E]
  | .rrcA => [0xCB, 0x0F]
  | .rlB => [0xCB, 0x10]
  | .rlC => [0xCB, 0x11]
  | .rlD => [0xCB, 0x12]
  | .rlE => [0xCB, 0x13]
  | .rlH => [0xCB, 0x14]
  | .rlL => [0xCB, 0x15]
  | .rlIndHl => [0xCB, 0x16]
  | .rlA => [0xCB, 0x17]
  | .rrB => [0xCB, 0x18]
  | .rrC => [0xCB, 0x19]
  | .rrD => [0xCB, 0x1A]
  | .rrE => [0xCB, 0x1B]
  | .rrH => [0xCB, 0x1C]
  | .rrL => [0xCB, 0x1D]
  | .rrIndHl => [0xCB, 0x1E]
  | .rrA => [0xCB, 0x1F]
  | .slaB => [0xCB, 0x20]
  | .slaC => [0xCB, 0x21]
  | .slaD => [0xCB, 0x22]
  | .slaE => [0xCB, 0x23]
  | .slaH => [0xCB, 0x24]
  | .slaL => [0xCB, 0x25]
  | .slaIndHl => [0xCB, 0x26]
  | .slaA => [0xCB, 0x27]
  | .sraB => [0xCB, 0x28]
  | .sraC => [0xCB, 0x29]
  | .sraD => [0xCB, 0x2A]
  | .sraE => [0xCB, 0x2B]
  | .sraH => [0xCB, 0x2C]
  | .sraL => [0xCB, 0x2D]
  | .sraIndHl => [0xCB, 0x2E]
  | .sraA => [0xCB, 0x2F]
  | .swapB => [0xCB, 0x30]
  | .swapC => [0xCB, 0x31]
  | .swapD => [0xCB, 0x32]
  | .swapE => [0xCB, 0x33]
  | .swapH => [0xCB, 0x34]
  | .swapL => [0xCB, 0x35]
  | .swapIndHl => [0xCB, 0x36]
  | .swapA => [0xCB, 0x37]
  | .srlB => [0xCB, 0x38]
  | .srlC => [0xCB, 0x39]
  | .srlD => [0xCB, 0x3A]
  | .srlE => [0xCB, 0x3B]
  | .srlH => [0xCB, 0x3C]
  | .srlL => [0xCB, 0x3D]
  | .srlIndHl => [0xCB, 0x3E]
  | .srlA => [0xCB, 0x3F]
  | .bit0B => [0xCB, 0x40]
  | .bit0C => [0xCB, 0x41]
  | .bit0D => [0xCB, 0x42]
  | .bit0E => [0xCB, 0x43]
  | .bit0H => [0xCB, 0x44]
  | .bit0L => [0xCB, 0x45]
  | .bit0IndHl => [0xCB, 0x46]
  | .bit0A => [0xCB, 0x47]
  | .bit1B => [0xCB, 0x48]
  | .bit1C => [0xCB, 0x49]
  | .bit1D => [0xCB, 0x4A]
  | .bit1E => [0xCB, 0x4B]
  | .bit1H => [0xCB, 0x4C]
  | .bit1L => [0xCB, 0x4D]
  | .bit1IndHl => [0xCB, 0x4E]
  | .bit1A => [0xCB, 0x4F]
  | .bit2B => [0xCB, 0x50]
  | .bit2C => [0xCB, 0x51]
  | .bit2D => [0xCB, 0x52]
  | .bit2E => [0xCB, 0x53]
  | .bit2H => [0xCB, 0x54]
  | .bit2L => [0xCB, 0x55]
  | .bit2IndHl => [0xCB, 0x56]
  | .bit2A => [0xCB, 0x57]
  | .bit3B => [0xCB, 0x58]
  | .bit3C => [0xCB, 0x59]
  | .bit3D => [0xCB, 0x5A]
  | .bit3E => [0xCB, 0x5B]
  | .bit3H => [0xCB, 0x5C]
  | .bit3L => [0xCB, 0x5D]
  | .bit3IndHl => [0xCB, 0x5E]
  | .bit3A => [0xCB, 0x5F]
  | .bit4B => [0xCB, 0x60]
  | .bit4C => [0xCB, 0x61]
  | .bit4D => [0xCB, 0x62]
  | .bit4E => [0xCB, 0x63]
  | .bit4H => [0xCB, 0x64]
  | .bit4L => [0xCB, 0x65]
  | .bit4IndHl => [0xCB, 0x66]
  | .bit4A => [0xCB, 0x67]
  | .bit5B => [0xCB, 0x68]
  | .bit5C => [0xCB, 0x69]
  | .bit5D => [0xCB, 0x6A]
  | .bit5E => [0xCB, 0x6B]
  | .bit5H => [0xCB, 0x6C]
  | .bit5L => [0xCB, 0x6D]
  | .bit5IndHl => [0xCB, 0x6E]
  | .bit5A => [0xCB, 0x6F]
  | .bit6B => [0xCB, 0x70]
  | .bit6C => [0xCB, 0x71]
  | .bit6D => [0xCB, 0x72]
  | .bit6E => [0xCB, 0x73]
  | .bit6H => [0xCB, 0x74]
  | .bit6L => [0xCB, 0x75]
  | .bit6IndHl => [0xCB, 0x76]
  | .bit6A => [0xCB, 0x77]
  | .bit7B => [0xCB, 0x78]
  | .bit7C => [0xCB, 0x79]
  | .bit7D => [0xCB, 0x7A]
  | .bit7E => [0xCB, 0x7B]
  | .bit7H => [0xCB, 0x7C]
  | .bit7L => [0xCB, 0x7D]
  | .bit7IndHl => [0xCB, 0x7E]
  | .bit7A => [0xCB, 0x7F]
  | .res0B => [0xCB, 0x80]
  | .res0C => [0xCB, 0x81]
  | .res0D => [0xCB, 0x82]
  | .res0E => [0xCB, 0x83]
  | .res0H => [0xCB, 0x84]
  | .res0L => [0xCB, 0x85]
  | .res0IndHl => [0xCB, 0x86]
  | .res0A => [0xCB, 0x87]
  | .res1B => [0xCB, 0x88]
  | .res1C => [0xCB, 0x89]
  | .res1D => [0xCB, 0x8A]
  | .res1E => [0xCB, 0x8B]
  | .res1H => [0xCB, 0x8C]
  | .res1L => [0xCB, 0x8D]
  | .res1IndHl => [0xCB, 0x8E]
  | .res1A => [0xCB, 0x8F]
  | .res2B => [0xCB, 0x90]
  | .res2C => [0xCB, 0x91]
  | .res2D => [0xCB, 0x92]
  | .res2E => [0xCB, 0x93]
  | .res2H => [0xCB, 0x94]
  | .res2L => [0xCB, 0x95]
  | .res2IndHl => [0xCB, 0x96]
  | .res2A => [0xCB, 0x97]
  | .res3B => [0xCB, 0x98]
  | .res3C => [0xCB, 0x99]
  | .res3D => [0xCB, 0x9A]
  | .res3E => [0xCB, 0x9B]
  | .res3H => [0xCB, 0x9C]
  | .res3L => [0xCB, 0x9D]
  | .res3IndHl => [0xCB, 0x9E]
  | .res3A => [0xCB, 0x9F]
  | .res4B => [0xCB, 0xA0]
  | .res4C => [0xCB, 0xA1]
  | .res4D => [0xCB, 0xA2]
  | .res4E => [0xCB, 0xA3]
  | .res4H => [0xCB, 0xA4]
  | .res4L => [0xCB, 0xA5]
  | .res4IndHl => [0xCB, 0xA6]
  | .res4A => [0xCB, 0xA7]
  | .res5B => [0xCB, 0xA8]
  | .res5C => [0xCB, 0xA9]
  | .res5D => [0xCB, 0xAA]
  | .res5E => [0xCB, 0xAB]
  | .res5H => [0xCB, 0xAC]
  | .res5L => [0xCB, 0xAD]
  | .res5IndHl => [0xCB, 0xAE]
  | .res5A => [0xCB, 0xAF]
  | .res6B => [0xCB, 0xB0]
  | .res6C => [0xCB, 0xB1]
  | .res6D => [0xCB, 0xB2]
  | .res6E => [0xCB, 0xB3]
  | .res6H => [0xCB, 0xB4]
  | .res6L => [0xCB, 0xB5]
  | .res6IndHl => [0xCB, 0xB6]
  | .res6A => [0xCB, 0xB7]
  | .res7B => [0xCB, 0xB8]
  | .res7C => [0xCB, 0xB9]
  | .res7D => [0xCB, 0xBA]
  | .res7E => [0xCB, 0xBB]
  | .res7H => [0xCB, 0xBC]
  | .res7L => [0xCB, 0xBD]
  | .res7IndHl => [0xCB, 0xBE]
  | .res7A => [0xCB, 0xBF]
  | .set0B => [0xCB, 0xC0]
  | .set0C => [0xCB, 0xC1]
  | .set0D => [0xCB, 0xC2]
  | .set0E => [0xCB, 0xC3]
  | .set0H => [0xCB, 0xC4]
  | .set0L => [0xCB, 0xC5]
  | .set0IndHl => [0xCB, 0xC6]
  | .set0A => [0xCB, 0xC7]
  | .set1B => [0xCB, 0xC8]
  | .set1C => [0xCB, 0xC9]
  | .set1D => [0xCB, 0xCA]
  | .set1E => [0xCB, 0xCB]
  | .set1H => [0xCB, 0xCC]
  | .set1L => [0xCB, 0xCD]
  | .set1IndHl => [0xCB, 0xCE]
  | .set1A => [0xCB, 0xCF]
  | .set2B => [0xCB, 0xD0]
  | .set2C => [0xCB, 0xD1]
  | .set2D => [0xCB, 0xD2]
  | .set2E => [0xCB, 0xD3]
  | .set2H => [0xCB, 0xD4]
  | .set2L => [0xCB, 0xD5]
  | .set2IndHl => [0xCB, 0xD6]
  | .set2A => [0xCB, 0xD7]
  | .set3B => [0xCB, 0xD8]
  | .set3C => [0xCB, 0xD9]
  | .set3D => [0xCB, 0xDA]
  | .set3E => [0xCB, 0xDB]
  | .set3H => [0xCB, 0xDC]
  | .set3L => [0xCB, 0xDD]
  | .set3IndHl => [0xCB, 0xDE]
  | .set3A => [0xCB, 0xDF]
  | .set4B => [0xCB, 0xE0]
  | .set4C => [0xCB, 0xE1]
  | .set4D => [0xCB, 0xE2]
  | .set4E => [0xCB, 0xE3]
  | .set4H => [0xCB, 0xE4]
  | .set4L => [0xCB, 0xE5]
  | .set4IndHl => [0xCB, 0xE6]
  | .set4A => [0xCB, 0xE7]
  | .set5B => [0xCB, 0xE8]
  | .set5C => [0xCB, 0xE9]
  | .set5D => [0xCB, 0xEA]
  | .set5E => [0xCB, 0xEB]
  | .set5H => [0xCB, 0xEC]
  | .set5L => [0xCB, 0xED]
  | .set5IndHl => [0xCB, 0xEE]
  | .set5A => [0xCB, 0xEF]
  | .set6B => [0xCB, 0xF0]
  | .set6C => [0xCB, 0xF1]
  | .set6D => [0xCB, 0xF2]
  | .set6E => [0xCB, 0xF3]
  | .set6H => [0xCB, 0xF4]
  | .set6L => [0xCB, 0xF5]
  | .set6IndHl => [0xCB, 0xF6]
  | .set6A => [0xCB, 0xF7]
  | .set7B => [0xCB, 0xF8]
  | .set7C => [0xCB, 0xF9]
  | .set7D => [0xCB, 0xFA]
  | .set7E => [0xCB, 0xFB]
  | .set7H => [0xCB, 0xFC]
  | .set7L => [0xCB, 0xFD]
  | .set7IndHl => [0xCB, 0xFE]
  | .set7A => [0xCB, 0xFF]

end Sys2Proof
end

