-- ==== Sys2Proof/Config.lean ====
section
/-! DEFINITION. What the hardware fixes once: the sizes of its arrays, the geometry of the screen, and the
one open parameter of the spec, the treatment of illegal opcodes (rule R7). The spec leaves no value of an
instruction's result open, so this model needs no free value. -/

namespace Sys2Proof

/-- `IllegalOpcodePolicy`, the open parameter of rules R7 and R316. -/
inductive IllegalOpcodePolicy where
  /-- An illegal opcode ends the run with `DecodeError`. -/
  | fatal
  /-- An illegal opcode is a one-byte instruction that does nothing and costs 4 ticks. -/
  | nop
deriving DecidableEq, Repr

namespace Config

/-- Bytes of video RAM (rule R32). -/
abbrev vramSize : Nat := 8192
/-- Bytes of the sprite attribute table (rule R32). -/
abbrev oamSize : Nat := 160
/-- Bytes of work RAM (rule R34). -/
abbrev wramSize : Nat := 8192
/-- Bytes of high RAM (rule R34). -/
abbrev hramSize : Nat := 127
/-- Bytes of one ROM bank (rule R451). -/
abbrev romBankSize : Nat := 0x4000
/-- Columns of the screen (rule R390). -/
abbrev screenWidth : Nat := 160
/-- Rows of the screen (rule R390). -/
abbrev screenHeight : Nat := 144
/-- Scanlines of a frame (rule R390). -/
abbrev scanlines : Nat := 154
/-- Dots of a scanline; one dot is one tick (rule R390). -/
abbrev dotsPerLine : Nat := 456
/-- Ticks of a frame (rule R390). -/
abbrev frameTicks : Nat := 70224
/-- The policy the spec recommends (rule R7). DESIGN CHOICE, log entry 3. -/
def recommendedPolicy : IllegalOpcodePolicy := .fatal
/-- What a byte of memory that nothing has written reads as. The spec leaves the contents of RAM at launch
unspecified and allows a model to take them as all zero (rule R503). DESIGN CHOICE, unsafe, log entry 1. -/
abbrev unlistedByte : Byte := 0

end Config

end Sys2Proof
end

