-- ==== Sys2Proof/Machine/State.lean ====
section
/-! DEFINITION. The state of the machine as plain data: every piece of state the spec gives it (10_state.md),
the outcomes a step can end in, and the state right after reset (rules R58, R500). -/

namespace Sys2Proof.Machine

/-- The outcomes that end a run (rules R10, R331). They are no exceptions: no handler runs. -/
inductive Fault where
  /-- `DecodeError(opcode, address)`: raised by an illegal opcode under the policy `fatal` (rule R316).
  Safe: the spec itself ends the run here. -/
  | decodeError (opcode : Byte) (address : Word)
  /-- `Stop(address)`: raised by STOP (rule R313). Safe: the spec itself ends the run here. -/
  | stop (address : Word)
deriving DecidableEq, Repr

/-- The reasons the model has no meaning for an instruction. -/
inductive Refusal where
  /-- Raised by an arm of `exec` whose instruction has no meaning yet; no arm is left that does.
  Safe: a refused instruction proves nothing about the hardware. -/
  | notModelled (mnemonic : String)
deriving DecidableEq, Repr

/-- An array of bytes: the offsets in it that hold something else than `Config.unlistedByte`, strictly rising
(`Memory.wf`). -/
abbrev Memory := List Host.Cell

/-- A shade, 0 lightest to 3 darkest (rule R411). -/
abbrev Shade := BitVec 2

/-- A framebuffer: rows from the top, each a list of shades from the left (rule R33). -/
abbrev Frame := List (List Shade)

/-- The modes of the PPU (rule R391). -/
inductive Mode where
  | hblank | vblank | oamScan | transfer
deriving DecidableEq, Repr

/-- The cartridge types of rule R452. -/
inductive CartType where
  | none | mbc1
deriving DecidableEq, Repr

/-- The CPU: the register file (rules R20 to R24) and the control latches (rules R26 to R29). -/
structure Cpu where
  /-- The accumulator (rule R20). -/
  a : Byte
  /-- The flags register; the low nibble is always zero (rule R22). -/
  f : Byte
  /-- General register B (rule R20). -/
  b : Byte
  /-- General register C (rule R20). -/
  c : Byte
  /-- General register D (rule R20). -/
  d : Byte
  /-- General register E (rule R20). -/
  e : Byte
  /-- General register H (rule R20). -/
  h : Byte
  /-- General register L (rule R20). -/
  l : Byte
  /-- The stack pointer (rule R23). -/
  sp : Word
  /-- The program counter (rule R24). -/
  pc : Word
  /-- The global interrupt-enable latch (rule R26). -/
  ime : Bool
  /-- EI has run and the next instruction has not (rule R27). -/
  imePending : Bool
  /-- The halted state (rule R28). -/
  halted : Bool
  /-- `dead`, with the outcome that set it (rules R29, R345); `none` is 0. -/
  dead : Option Fault
deriving DecidableEq, Repr

/-- The interrupt controller (rule R30): bit 0 VBlank, 1 STAT, 2 Timer, 3 Serial, 4 Joypad. -/
structure Irq where
  /-- The requested set, register IF. -/
  if5 : BitVec 5
  /-- The enabled set, register IE. -/
  ie5 : BitVec 5
deriving DecidableEq, Repr

/-- The timer (rule R31). -/
structure Timer where
  /-- The divider counter. -/
  div16 : Word
  /-- The programmable counter. -/
  tima : Byte
  /-- The modulo. -/
  tma : Byte
  /-- Bit 2 enable, bits 1:0 frequency select. -/
  tac : BitVec 3
  /-- Ticks toward the next increment of `tima`. -/
  timerAcc : BitVec 10
  /-- An overflow happened and its reload has not completed. -/
  reloadPending : Bool
  /-- Ticks left until the reload completes. -/
  reloadDelay : BitVec 3
deriving DecidableEq, Repr

/-- The PPU (rules R32, R33). -/
structure Ppu where
  /-- The scanline index. -/
  ly : Nat
  /-- The counter within a line. -/
  dot : Nat
  /-- The mode. -/
  mode : Mode
  /-- The window line counter (rule R416). -/
  wly : Nat
  /-- Register LCDC (rule R47). -/
  lcdc : Byte
  /-- STAT bits 6:3 (rule R48). -/
  statEn : BitVec 4
  /-- Background scroll, vertical (rule R49). -/
  scy : Byte
  /-- Background scroll, horizontal (rule R49). -/
  scx : Byte
  /-- Scanline compare (rule R51). -/
  lyc : Byte
  /-- Background palette (rule R53). -/
  bgp : Byte
  /-- First sprite palette (rule R53). -/
  obp0 : Byte
  /-- Second sprite palette (rule R53). -/
  obp1 : Byte
  /-- Window row (rule R54). -/
  wy : Byte
  /-- Window column plus 7 (rule R54). -/
  wx : Byte
  /-- Frame pacing while the LCD is off (rule R406). -/
  offCounter : Nat
  /-- Set at each frame boundary (rule R431). -/
  frameComplete : Bool
  /-- Video RAM, 8192 bytes. -/
  vram : Memory
  /-- The sprite attribute table, 160 bytes. -/
  oam : Memory
  /-- The frame being composited (rule R33). -/
  back : Frame
  /-- The last fully composited frame (rule R33). -/
  front : Frame
deriving DecidableEq, Repr

/-- The cartridge (rule R35). The first seven fields are fixed for an instance (rule R59). -/
structure Cart where
  /-- The ROM image. -/
  rom : Memory
  /-- The number of bytes of the image. -/
  romLen : Nat
  /-- The controller. -/
  cartType : CartType
  /-- The cartridge has external RAM. -/
  hasRam : Bool
  /-- That RAM is battery-backed; reported to the host only (rule R466). -/
  hasBattery : Bool
  /-- The number of 16 KiB banks physically present (rule R453). -/
  romBanks : Nat
  /-- The number of bytes of external RAM. -/
  ramLen : Nat
  /-- External RAM. -/
  extRam : Memory
  /-- External RAM access enabled (rule R456). -/
  ramEnable : Bool
  /-- Lower ROM bank bits (rule R457). -/
  bank1 : BitVec 5
  /-- Upper ROM bank bits, or RAM bank (rule R458). -/
  bank2 : BitVec 2
  /-- The banking mode (rule R459). -/
  bankMode : Bool
deriving DecidableEq, Repr

/-- The joypad (rule R36). -/
structure Joypad where
  /-- One bit a button, 1 pressed (rule R480). -/
  buttons : Byte
  /-- Register P1 bits 5:4. -/
  p1Select : BitVec 2
deriving DecidableEq, Repr

/-- The serial registers (rule R36). -/
structure Serial where
  /-- Register SB. -/
  sb : Byte
  /-- Register SC bit 7. -/
  sc7 : Bool
  /-- Register SC bit 0. -/
  sc0 : Bool
deriving DecidableEq, Repr

/-- The whole machine. -/
structure State where
  /-- The CPU. -/
  cpu : Cpu
  /-- The interrupt controller. -/
  irq : Irq
  /-- The timer. -/
  timer : Timer
  /-- The PPU, with VRAM and OAM. -/
  ppu : Ppu
  /-- The cartridge. -/
  cart : Cart
  /-- Work RAM, 8192 bytes (rule R34). -/
  wram : Memory
  /-- High RAM, 127 bytes (rule R34). -/
  hram : Memory
  /-- The joypad. -/
  joypad : Joypad
  /-- The serial registers. -/
  serial : Serial
  /-- Register DMA (rule R52). -/
  dma : Byte
  /-- The treatment of illegal opcodes, fixed for an instance (rules R7, R59). -/
  policy : IllegalOpcodePolicy
  /-- The model's own field: the ticks the last CPU step returned (rule R345). DESIGN CHOICE, log entry 4. -/
  cycles : Nat
deriving DecidableEq, Repr

/-- A framebuffer of 144 rows of 160 zero shades (rule R33). -/
def Frame.blank : Frame := List.replicate Config.screenHeight (List.replicate Config.screenWidth 0)

/-- The machine right after reset (rules R58, R500). The bytes of RAM the spec leaves unspecified are not listed
(DESIGN CHOICE, log entry 1), the image is the all-zero one of two banks (DESIGN CHOICE, log entry 2), the policy
is the recommended one (DESIGN CHOICE, log entry 3) and no step has returned ticks (log entry 4). -/
def State.reset : State where
  cpu :=
    { a := 0x01, f := 0xB0, b := 0x00, c := 0x13, d := 0x00, e := 0xD8, h := 0x01, l := 0x4D,
      sp := 0xFFFE, pc := 0x0100, ime := false, imePending := false, halted := false, dead := none }
  irq := { if5 := 0b00001, ie5 := 0b00000 }
  timer :=
    { div16 := 0xABCC, tima := 0, tma := 0, tac := 0, timerAcc := 0, reloadPending := false, reloadDelay := 0 }
  ppu :=
    { ly := 0, dot := 0, mode := .oamScan, wly := 0, lcdc := 0x91, statEn := 0, scy := 0, scx := 0, lyc := 0,
      bgp := 0xFC, obp0 := 0xFF, obp1 := 0xFF, wy := 0, wx := 0, offCounter := 0, frameComplete := false,
      vram := [], oam := [], back := Frame.blank, front := Frame.blank }
  cart :=
    { rom := [], romLen := 0x8000, cartType := .none, hasRam := false, hasBattery := false, romBanks := 2,
      ramLen := 0, extRam := [], ramEnable := false, bank1 := 1, bank2 := 0, bankMode := false }
  wram := []
  hram := []
  joypad := { buttons := 0, p1Select := 0 }
  serial := { sb := 0, sc7 := false, sc0 := false }
  dma := 0xFF
  policy := Config.recommendedPolicy
  cycles := 0

end Sys2Proof.Machine
end

