-- ==== Sys2Proof/Machine/Memory.lean ====
section
/-! DEFINITION. One array of bytes in one canonical form: the listed offsets rise strictly and no listed byte is
the one an unlisted offset reads as, so equal arrays are equal data. -/

namespace Sys2Proof.Machine

/-- The canonical form: offsets strictly rising, no byte listed that an unlisted offset reads as. -/
abbrev Memory.wf (m : Memory) : Prop :=
  m.Pairwise (fun x y => x.1 < y.1) ∧ ∀ x ∈ m, x.2 ≠ Config.unlistedByte

/-- Every listed offset is below `size`. -/
abbrev Memory.below (m : Memory) (size : Nat) : Prop := ∀ x ∈ m, x.1 < size

/-- The byte at offset `i`. -/
def Memory.read : Memory → Nat → Byte
  | [], _ => Config.unlistedByte
  | (k, v) :: m, i => if k = i then v else Memory.read m i

/-- The array without a listed byte at offset `i`. -/
def Memory.unlist (m : Memory) (i : Nat) : Memory := m.filter (fun x => x.1 != i)

/-- Lists a byte at its place in the order. -/
def Memory.enlist : Memory → Nat → Byte → Memory
  | [], i, v => [(i, v)]
  | x :: m, i, v => if i < x.1 then (i, v) :: x :: m else x :: Memory.enlist m i v

/-- The array after the byte at offset `i` becomes `v`. -/
def Memory.write (m : Memory) (i : Nat) (v : Byte) : Memory :=
  if v = Config.unlistedByte then m.unlist i else (m.unlist i).enlist i v

/-- Puts a byte in front of the cells after it, unless an unlisted offset reads as it. -/
def Memory.consByte (i : Nat) (v : Byte) (m : Memory) : Memory :=
  if v = Config.unlistedByte then m else (i, v) :: m

/-- The array whose bytes from offset `base` on are `bs`. -/
def Memory.ofBytesAt : Nat → List Byte → Memory
  | _, [] => []
  | base, v :: bs => Memory.consByte base v (Memory.ofBytesAt (base + 1) bs)

/-- The array whose bytes are `bs`. -/
def Memory.ofBytes (bs : List Byte) : Memory := Memory.ofBytesAt 0 bs

/-- The first `size` bytes of an array. -/
def Memory.toBytes (m : Memory) (size : Nat) : List Byte := (List.range size).map m.read

end Sys2Proof.Machine
end

