-- ==== Sys2Proof/Machine/Cartridge.lean ====
section
/-! DEFINITION. The cartridge and its bank-switch multiplexer (63_cartridge_mbc.md). -/

namespace Sys2Proof.Machine

/-- The ROM bank a bus address shows (rules R460, R461). -/
def Cart.romBank (c : Cart) (a : Word) : Nat :=
  match c.cartType with
  | .none => a.toNat / Config.romBankSize % c.romBanks
  | .mbc1 =>
    if a.toNat ≤ 0x3FFF then (if c.bankMode then c.bank2.toNat * 32 else 0) % c.romBanks
    else (c.bank2.toNat * 32 + c.bank1.toNat) % c.romBanks

/-- The offset in the image of a bus address below `0x8000` (rule R460). -/
def Cart.romIndex (c : Cart) (a : Word) : Nat :=
  c.romBank a * Config.romBankSize + a.toNat % Config.romBankSize

/-- `CartRomRead(a)` (rule R460). -/
def Cart.romRead (c : Cart) (a : Word) : Byte := c.rom.read (c.romIndex a)

/-- External RAM is present and enabled (rules R65, R463). -/
def Cart.ramOn (c : Cart) : Bool := c.ramLen != 0 && c.ramEnable

/-- The offset in external RAM of a bus address from `0xA000` to `0xBFFF` (rule R463). -/
def Cart.ramIndex (c : Cart) (a : Word) : Nat :=
  ((if c.bankMode then c.bank2.toNat else 0) * 0x2000 + (a.toNat - 0xA000)) % c.ramLen

/-- `CartRamRead(a)` (rule R463). -/
def Cart.ramRead (c : Cart) (a : Word) : Byte := if c.ramOn then c.extRam.read (c.ramIndex a) else 0xFF

/-- `MbcControlWrite(a, v)`: a banking command; nothing is stored in the image (rules R455 to R459, R465). -/
def Cart.controlWrite (c : Cart) (a : Word) (v : Byte) : Cart :=
  match c.cartType with
  | .none => c
  | .mbc1 =>
    if a.toNat ≤ 0x1FFF then { c with ramEnable := v &&& 0x0F == 0x0A }
    else if a.toNat ≤ 0x3FFF then
      let low := v.extractLsb' 0 5
      { c with bank1 := if low = 0 then 1 else low }
    else if a.toNat ≤ 0x5FFF then { c with bank2 := v.extractLsb' 0 2 }
    else { c with bankMode := v.getLsbD 0 }

end Sys2Proof.Machine
end

