-- ==== Sys2Proof/Machine/Interrupts.lean ====
section
/-! DEFINITION. The interrupt controller: request and enable sets and the priority encoder (rules R332 to
R340). -/

namespace Sys2Proof.Machine

/-- The five interrupt sources, highest priority first (rules R30, R339). -/
inductive IrqSource where
  | vblank | stat | timer | serial | joypad
deriving DecidableEq, Repr

/-- The bit number of a source in IF and IE (rule R339). -/
def IrqSource.bit : IrqSource → Nat
  | .vblank => 0
  | .stat => 1
  | .timer => 2
  | .serial => 3
  | .joypad => 4

/-- The set that holds one source. -/
def IrqSource.mask (k : IrqSource) : BitVec 5 := 1 <<< k.bit

/-- The vector `0x0040 + 8 * k` (rules R339, R343). -/
def IrqSource.vector (k : IrqSource) : Word := BitVec.ofNat 16 (0x0040 + 8 * k.bit)

/-- `Request(k)` (rule R334). -/
def Irq.request (q : Irq) (k : IrqSource) : Irq := { q with if5 := q.if5 ||| k.mask }

/-- `Clear(k)` (rule R335). -/
def Irq.clear (q : Irq) (k : IrqSource) : Irq := { q with if5 := q.if5 &&& ~~~k.mask }

/-- The sources both requested and enabled. -/
def Irq.pend (q : Irq) : BitVec 5 := q.ie5 &&& q.if5

/-- `IsPending()` (rule R336). -/
def Irq.isPending (q : Irq) : Bool := q.pend != 0

/-- `HighestPriorityPending()`: the lowest set bit of the pending set (rule R337). -/
def Irq.highestPriorityPending (q : Irq) : Option IrqSource :=
  let pend := q.pend
  if pend.getLsbD 0 then some .vblank
  else if pend.getLsbD 1 then some .stat
  else if pend.getLsbD 2 then some .timer
  else if pend.getLsbD 3 then some .serial
  else if pend.getLsbD 4 then some .joypad
  else none

/-- The requests of a device tick, all five bits at once; requests commute (rules R334, R356). -/
def Irq.requestSet (q : Irq) (set : BitVec 5) : Irq := { q with if5 := q.if5 ||| set }

end Sys2Proof.Machine
end

