-- ==== Sys2Proof/Machine/Ppu.lean ====
section
/-! DEFINITION. The PPU: modes, the scanline renderer, framebuffers and the tick (62_ppu.md). -/

namespace Sys2Proof.Machine

/-- The number of a mode in STAT bits 1:0 (rule R391). -/
def Mode.code : Mode → BitVec 2
  | .hblank => 0
  | .vblank => 1
  | .oamScan => 2
  | .transfer => 3

/-- The LCD is on, LCDC bit 7 (rule R47). -/
def Ppu.lcdOn (p : Ppu) : Bool := p.lcdc.getLsbD 7

/-- `VramLocked()` (rule R73). -/
def Ppu.vramLocked (p : Ppu) : Bool := p.lcdOn && p.mode == .transfer

/-- `OamLocked()` (rule R73). -/
def Ppu.oamLocked (p : Ppu) : Bool := p.lcdOn && (p.mode == .oamScan || p.mode == .transfer)

/-- A CPU read of video RAM: 0xFF while it is locked (rule R71). -/
def Ppu.readVram (p : Ppu) (i : Nat) : Byte := if p.vramLocked then 0xFF else p.vram.read i

/-- A CPU write of video RAM: dropped while it is locked (rule R71). -/
def Ppu.writeVram (p : Ppu) (i : Nat) (v : Byte) : Ppu :=
  if p.vramLocked then p else { p with vram := p.vram.write i v }

/-- A CPU read of OAM: 0xFF while it is locked (rule R72). -/
def Ppu.readOam (p : Ppu) (i : Nat) : Byte := if p.oamLocked then 0xFF else p.oam.read i

/-- A CPU write of OAM: dropped while it is locked (rule R72). -/
def Ppu.writeOam (p : Ppu) (i : Nat) (v : Byte) : Ppu :=
  if p.oamLocked then p else { p with oam := p.oam.write i v }

/-! ### Rendering one scanline -/

/-- The two-bit colour index of one pixel of a tile: `base` is the tile's offset in VRAM (rule R414). -/
def Ppu.tilePixel (p : Ppu) (base row col : Nat) : BitVec 2 :=
  let lo := p.vram.read (base + 2 * row)
  let hi := p.vram.read (base + 2 * row + 1)
  BitVec.ofBool (hi.getLsbD (7 - col)) ++ BitVec.ofBool (lo.getLsbD (7 - col))

/-- The offset in VRAM of a background or window tile (rule R414). -/
def Ppu.bgTileBase (p : Ppu) (tile : Byte) : Nat :=
  if p.lcdc.getLsbD 4 then 16 * tile.toNat
  else if tile.toNat < 128 then 0x1000 + 16 * tile.toNat
  else 0x0800 + 16 * (tile.toNat - 128)

/-- The colour index a layer shows at its own pixel, with the offset in VRAM of its tile map (rule R414). -/
def Ppu.layerPixel (p : Ppu) (map px py : Nat) : BitVec 2 :=
  let tile := p.vram.read (map + py / 8 * 32 + px / 8)
  p.tilePixel (p.bgTileBase tile) (py % 8) (px % 8)

/-- The offset in VRAM of the tile map that a map bit selects (rule R414). -/
def tileMapBase (mapBit : Bool) : Nat := if mapBit then 0x1C00 else 0x1800

/-- The window is active on scanline `y` (rule R413). -/
def Ppu.windowOnLine (p : Ppu) (y : Nat) : Bool :=
  p.lcdc.getLsbD 5 && p.lcdc.getLsbD 0 && decide (p.wy.toNat ≤ y) && decide (p.wx.toNat ≤ 166)

/-- Column `x` of scanline `y` shows the window (rule R413). -/
def Ppu.windowAt (p : Ppu) (y x : Nat) : Bool := p.windowOnLine y && decide (p.wx.toNat ≤ x + 7)

/-- The colour index of the background and window layer (rules R412, R413, R417). -/
def Ppu.bgIndex (p : Ppu) (y x : Nat) : BitVec 2 :=
  if p.lcdc.getLsbD 0 = false then 0
  else if p.windowAt y x then
    p.layerPixel (tileMapBase (p.lcdc.getLsbD 6)) (x + 7 - p.wx.toNat) p.wly
  else
    p.layerPixel (tileMapBase (p.lcdc.getLsbD 3)) ((x + p.scx.toNat) % 256) ((y + p.scy.toNat) % 256)

/-- The shade a palette gives a colour index (rules R53, R415, R424). -/
def paletteShade (palette : Byte) (idx : BitVec 2) : Shade := palette.extractLsb' (2 * idx.toNat) 2

/-- The shade of the background and window layer: blank without the palette while it is disabled (rules R415,
R417). -/
def Ppu.bgShade (p : Ppu) (y x : Nat) : Shade :=
  if p.lcdc.getLsbD 0 then paletteShade p.bgp (p.bgIndex y x) else 0

/-- Byte `k` of OAM entry `i` (rule R420). -/
def Ppu.oamByte (p : Ppu) (i k : Nat) : Byte := p.oam.read (4 * i + k)

/-- The height of sprites (rule R421). -/
def Ppu.spriteHeight (p : Ppu) : Nat := if p.lcdc.getLsbD 2 then 16 else 8

/-- Sprite `i` is on scanline `y` (rule R421). -/
def Ppu.spriteOnLine (p : Ppu) (y i : Nat) : Bool :=
  let top := (p.oamByte i 0).toNat
  decide (top ≤ y + 16) && decide (y + 16 < top + p.spriteHeight)

/-- Sprite `i` stands before or with sprite `j` in the order of rule R422. -/
def Ppu.spriteBefore (p : Ppu) (i j : Nat) : Bool :=
  let xi := (p.oamByte i 1).toNat
  let xj := (p.oamByte j 1).toNat
  decide (xi < xj) || (decide (xi = xj) && decide (i ≤ j))

/-- The sprites of scanline `y` in front-to-back order: the first ten on the line by index, sorted by X and then
index (rules R421, R422). -/
def Ppu.spritesOnLine (p : Ppu) (y : Nat) : List Nat :=
  (((List.range 40).filter (p.spriteOnLine y)).take 10).insertionSort (fun i j => p.spriteBefore i j = true)

/-- The colour index of sprite `i` at a pixel: 0, transparent, where the sprite does not cover the column
(rule R423). -/
def Ppu.spriteIndex (p : Ppu) (y x i : Nat) : BitVec 2 :=
  let left := (p.oamByte i 1).toNat
  let flags := p.oamByte i 3
  if left ≤ x + 8 ∧ x + 8 - left ≤ 7 then
    let sx := x + 8 - left
    let line := y + 16 - (p.oamByte i 0).toNat
    let row := if flags.getLsbD 6 then p.spriteHeight - 1 - line else line
    let col := if flags.getLsbD 5 then 7 - sx else sx
    let t := p.oamByte i 2
    let tile := if p.spriteHeight = 16 then ((t &&& 0xFE) ||| BitVec.ofNat 8 (row / 8)).toNat else t.toNat
    p.tilePixel (16 * tile) (row % 8) col
  else 0

/-- The shade of column `x` of scanline `y`: the first sprite in front-to-back order that is not transparent
there decides, and shows unless it stands behind a background index that is not 0 (rules R424, R425, R426). -/
def Ppu.pixel (p : Ppu) (y x : Nat) : Shade :=
  let winner := if p.lcdc.getLsbD 1 then (p.spritesOnLine y).find? (fun i => p.spriteIndex y x i != 0) else none
  match winner with
  | none => p.bgShade y x
  | some i =>
    let flags := p.oamByte i 3
    if flags.getLsbD 7 && p.bgIndex y x != 0 then p.bgShade y x
    else paletteShade (if flags.getLsbD 4 then p.obp1 else p.obp0) (p.spriteIndex y x i)

/-- `RenderLine(y)`: row `y` of the frame being composited, and the window line counter (rules R410, R416,
R426). -/
def Ppu.renderLine (p : Ppu) (y : Nat) : Ppu :=
  { p with
    back := p.back.set y ((List.range Config.screenWidth).map (p.pixel y))
    wly := if (List.range Config.screenWidth).any (p.windowAt y) then p.wly + 1 else p.wly }

/-! ### The tick -/

/-- A STAT request, if STAT enable bit `k` is set (rule R428). -/
def Ppu.statRequest (p : Ppu) (k : Nat) : BitVec 5 := if p.statEn.getLsbD k then IrqSource.stat.mask else 0

/-- `LycCheck()` after the scanline index became `ly` (rules R405, R429). -/
def Ppu.lycRequest (p : Ppu) (ly : Nat) : BitVec 5 := if ly = p.lyc.toNat then p.statRequest 3 else 0

/-- `OffTick()`: frame pacing while the LCD is off (rule R406). -/
def Ppu.offTick (p : Ppu) : Ppu :=
  if p.offCounter + 1 = Config.frameTicks then { p with offCounter := 0, frameComplete := true }
  else { p with offCounter := p.offCounter + 1 }

/-- The end of a visible scanline: the next one, or VBlank with the frame published (rules R405, R408, R433). -/
def Ppu.endVisibleLine (p : Ppu) : Ppu × BitVec 5 :=
  let ly := p.ly + 1
  if ly = Config.screenHeight then
    ({ p with dot := 0, ly := ly, mode := .vblank, front := p.back },
     IrqSource.vblank.mask ||| p.statRequest 1 ||| p.lycRequest ly)
  else
    ({ p with dot := 0, ly := ly, mode := .oamScan }, p.statRequest 2 ||| p.lycRequest ly)

/-- The end of a VBlank scanline: the next one, or the wrap to scanline 0 that completes the frame (rules R405,
R416, R431). -/
def Ppu.endVblankLine (p : Ppu) : Ppu × BitVec 5 :=
  let ly := p.ly + 1
  if ly = Config.scanlines then
    ({ p with dot := 0, ly := 0, wly := 0, frameComplete := true, mode := .oamScan },
     p.statRequest 2 ||| p.lycRequest 0)
  else
    ({ p with dot := 0, ly := ly }, p.lycRequest ly)

/-- `PpuTick()`: one dot, and the requests it makes (rules R405, R406, R410). -/
def Ppu.tick (p : Ppu) : Ppu × BitVec 5 :=
  if p.lcdOn = false then (p.offTick, 0)
  else
    let dot := p.dot + 1
    if p.ly < Config.screenHeight then
      if dot = 80 then (({ p with dot := dot, mode := .transfer } : Ppu).renderLine p.ly, 0)
      else if dot = 252 then ({ p with dot := dot, mode := .hblank }, p.statRequest 0)
      else if dot = Config.dotsPerLine then p.endVisibleLine
      else ({ p with dot := dot }, 0)
    else if dot = Config.dotsPerLine then p.endVblankLine
    else ({ p with dot := dot }, 0)

/-- One tick of the PPU in the machine: its requests go to the interrupt controller (rules R339, R405). -/
def State.ppuTick (s : State) : State :=
  let r := s.ppu.tick
  { s with ppu := r.1, irq := s.irq.requestSet r.2 }

/-- `PpuAdvance(c)` (rule R404). -/
def State.ppuAdvance (s : State) (c : Nat) : State := Nat.iterate State.ppuTick c s

/-! ### Registers -/

/-- A write to LCDC: bit 7 switches the LCD, and at both switches the frame starts over (rule R407). -/
def Ppu.writeLcdc (p : Ppu) (v : Byte) : Ppu :=
  if p.lcdOn = v.getLsbD 7 then { p with lcdc := v }
  else { p with lcdc := v, ly := 0, dot := 0, wly := 0, mode := if v.getLsbD 7 then .oamScan else .hblank }

/-- The scanline index LY and STAT show: 0 while the LCD is off (rules R50, R403, R428). -/
def Ppu.shownLy (p : Ppu) : Byte := if p.lcdOn then BitVec.ofNat 8 p.ly else 0

/-- The mode STAT shows: 0 while the LCD is off (rules R48, R428). -/
def Ppu.shownMode (p : Ppu) : BitVec 2 := if p.lcdOn then p.mode.code else 0

/-- The read value of STAT (rules R48, R428). -/
def Ppu.readStat (p : Ppu) : Byte :=
  (0x80 : Byte) ||| (p.statEn.setWidth 8 <<< 3) ||| (bitByte (p.shownLy == p.lyc) <<< 2) ||| p.shownMode.setWidth 8

end Sys2Proof.Machine
end

