-- ==== Sys2Proof/Machine/Timer.lean ====
section
/-! DEFINITION. The timer and divider (61_timer.md). -/

namespace Sys2Proof.Machine

/-- The period in ticks that the select field names (rule R373). -/
def timerPeriod (tac : BitVec 3) : Nat :=
  match (tac.extractLsb' 0 2).toNat with
  | 0 => 1024
  | 1 => 16
  | 2 => 64
  | _ => 256

/-- The programmable timer counts (rule R372). -/
def Timer.enabled (t : Timer) : Bool := t.tac.getLsbD 2

/-- The reload part of one tick: counts the window down and, when it ends, loads the modulo. The second
component says that the Timer interrupt is requested (rules R375, R378). -/
def Timer.reloadTick (t : Timer) : Timer × Bool :=
  if t.reloadPending then
    let delay := t.reloadDelay - 1
    if delay = 0 then ({ t with reloadDelay := delay, tima := t.tma, reloadPending := false }, true)
    else ({ t with reloadDelay := delay }, false)
  else (t, false)

/-- The counting part of one tick (rules R374, R375, R377). -/
def Timer.countTick (t : Timer) : Timer :=
  if t.enabled then
    if t.timerAcc.toNat + 1 = timerPeriod t.tac then
      if t.tima = 0xFF then { t with timerAcc := 0, tima := 0x00, reloadPending := true, reloadDelay := 4 }
      else { t with timerAcc := 0, tima := t.tima + 1 }
    else { t with timerAcc := t.timerAcc + 1 }
  else t

/-- `TimerTick()`: the divider, then a pending reload, then the count (rules R371, R375). The second component
says that the Timer interrupt is requested. -/
def Timer.tick (t : Timer) : Timer × Bool :=
  let r := ({ t with div16 := t.div16 + 1 } : Timer).reloadTick
  (r.1.countTick, r.2)

/-- A write to DIV: the whole divider becomes 0, whatever is written (rule R379). -/
def Timer.writeDiv (t : Timer) : Timer := { t with div16 := 0 }

/-- A write to TIMA: cancels a pending reload (rule R381). -/
def Timer.writeTima (t : Timer) (v : Byte) : Timer := { t with tima := v, reloadPending := false }

/-- A write to TMA (rule R382). -/
def Timer.writeTma (t : Timer) (v : Byte) : Timer := { t with tma := v }

/-- A write to TAC: stores bits 2:0 and clears the accumulator (rule R383). -/
def Timer.writeTac (t : Timer) (v : Byte) : Timer := { t with tac := v.extractLsb' 0 3, timerAcc := 0 }

/-- One tick of the timer in the machine: its request goes to the interrupt controller (rule R378). -/
def State.timerTick (s : State) : State :=
  let r := s.timer.tick
  { s with timer := r.1, irq := if r.2 then s.irq.request .timer else s.irq }

/-- `TimerAdvance(c)` (rule R376). -/
def State.timerAdvance (s : State) (c : Nat) : State := Nat.iterate State.timerTick c s

end Sys2Proof.Machine
end

