-- ==== Sys2Proof/Machine/Bus.lean ====
section
/-! DEFINITION. The system bus: the address decoder, the memory-mapped registers, the locks and OAM DMA
(20_memory.md, 64_io_devices.md). -/

namespace Sys2Proof.Machine

/-- The memory-mapped registers of the I/O block (rule R75). -/
inductive IoReg where
  | p1 | sb | sc | div | tima | tma | tac | ifl | lcdc | stat | scy | scx | ly | lyc | dma | bgp | obp0 | obp1
  | wy | wx
deriving DecidableEq, Repr

/-- The register at `0xFF00 + n`, if a device claims that address (rules R56, R75). -/
def ioRegAt (n : Nat) : Option IoReg :=
  match n with
  | 0x00 => some .p1
  | 0x01 => some .sb
  | 0x02 => some .sc
  | 0x04 => some .div
  | 0x05 => some .tima
  | 0x06 => some .tma
  | 0x07 => some .tac
  | 0x0F => some .ifl
  | 0x40 => some .lcdc
  | 0x41 => some .stat
  | 0x42 => some .scy
  | 0x43 => some .scx
  | 0x44 => some .ly
  | 0x45 => some .lyc
  | 0x46 => some .dma
  | 0x47 => some .bgp
  | 0x48 => some .obp0
  | 0x49 => some .obp1
  | 0x4A => some .wy
  | 0x4B => some .wx
  | _ => none

/-- Where a bus address leads (rules R61, R62): a byte of one array, by its offset there, a register, or no
owner. External RAM that is absent or disabled has no owner (rule R65). -/
inductive Place where
  | rom (i : Nat)
  | vram (i : Nat)
  | extRam (i : Nat)
  | wram (i : Nat)
  | oam (i : Nat)
  | hram (i : Nat)
  | io (r : IoReg)
  | ie
  | unclaimed
deriving DecidableEq, Repr

/-- The address decoder (rules R61, R62, R65, R70, R78). -/
def State.place (s : State) (a : Word) : Place :=
  let n := a.toNat
  if n ≤ 0x7FFF then .rom (s.cart.romIndex a)
  else if n ≤ 0x9FFF then .vram (n - 0x8000)
  else if n ≤ 0xBFFF then (if s.cart.ramOn then .extRam (s.cart.ramIndex a) else .unclaimed)
  else if n ≤ 0xDFFF then .wram (n - 0xC000)
  else if n ≤ 0xFDFF then .wram (n - 0xE000)
  else if n ≤ 0xFE9F then .oam (n - 0xFE00)
  else if n ≤ 0xFEFF then .unclaimed
  else if n ≤ 0xFF7F then
    match ioRegAt (n - 0xFF00) with
    | some r => .io r
    | none => .unclaimed
  else if n ≤ 0xFFFE then .hram (n - 0xFF80)
  else .ie

/-! ### Registers -/

/-- `P1Read()` (rule R481): select bits and lines are active low. -/
def Joypad.readP1 (j : Joypad) : Byte :=
  let direction : Byte := if j.p1Select.getLsbD 0 then 0x0F else ~~~(j.buttons &&& 0x0F) &&& 0x0F
  let action : Byte := if j.p1Select.getLsbD 1 then 0x0F else ~~~(j.buttons >>> 4) &&& 0x0F
  (0xC0 : Byte) ||| (j.p1Select.setWidth 8 <<< 4) ||| (direction &&& action)

/-- The read value of SC (rules R41, R484). -/
def Serial.readSc (r : Serial) : Byte := (0x7E : Byte) ||| (bitByte r.sc7 <<< 7) ||| bitByte r.sc0

/-- `IoRead(a)` (rule R75). -/
def State.readIo (s : State) (r : IoReg) : Byte :=
  match r with
  | .p1 => s.joypad.readP1
  | .sb => s.serial.sb
  | .sc => s.serial.readSc
  | .div => hiByte s.timer.div16
  | .tima => s.timer.tima
  | .tma => s.timer.tma
  | .tac => (0xF8 : Byte) ||| s.timer.tac.setWidth 8
  | .ifl => (0xE0 : Byte) ||| s.irq.if5.setWidth 8
  | .lcdc => s.ppu.lcdc
  | .stat => s.ppu.readStat
  | .scy => s.ppu.scy
  | .scx => s.ppu.scx
  | .ly => s.ppu.shownLy
  | .lyc => s.ppu.lyc
  | .dma => s.dma
  | .bgp => s.ppu.bgp
  | .obp0 => s.ppu.obp0
  | .obp1 => s.ppu.obp1
  | .wy => s.ppu.wy
  | .wx => s.ppu.wx

/-- `DmaSourceRead(a)`: no lock applies, and the addresses from `0xE000` on read work RAM (rule R486). -/
def State.dmaRead (s : State) (a : Word) : Byte :=
  let a := if 0xE000 ≤ a.toNat then a - 0x2000 else a
  if a.toNat ≤ 0x7FFF then s.cart.romRead a
  else if a.toNat ≤ 0x9FFF then s.ppu.vram.read (a.toNat - 0x8000)
  else if a.toNat ≤ 0xBFFF then s.cart.ramRead a
  else s.wram.read (a.toNat - 0xC000)

/-- The 160 bytes a write of `v` to DMA copies (rule R486). -/
def State.dmaBytes (s : State) (v : Byte) : List Byte :=
  (List.range Config.oamSize).map (fun i => s.dmaRead (joinBytes v 0 + BitVec.ofNat 16 i))

/-- A write of `v` to DMA: the register, and every byte of OAM at once (rule R486). -/
def State.writeDma (s : State) (v : Byte) : State :=
  { s with dma := v, ppu := { s.ppu with oam := Memory.ofBytes (s.dmaBytes v) } }

/-- `IoWrite(a, v)` (rule R75). -/
def State.writeIo (s : State) (r : IoReg) (v : Byte) : State :=
  match r with
  | .p1 => { s with joypad := { s.joypad with p1Select := v.extractLsb' 4 2 } }
  | .sb => { s with serial := { s.serial with sb := v } }
  | .sc => { s with serial := { s.serial with sc7 := v.getLsbD 7, sc0 := v.getLsbD 0 } }
  | .div => { s with timer := s.timer.writeDiv }
  | .tima => { s with timer := s.timer.writeTima v }
  | .tma => { s with timer := s.timer.writeTma v }
  | .tac => { s with timer := s.timer.writeTac v }
  | .ifl => { s with irq := { s.irq with if5 := v.extractLsb' 0 5 } }
  | .lcdc => { s with ppu := s.ppu.writeLcdc v }
  | .stat => { s with ppu := { s.ppu with statEn := v.extractLsb' 3 4 } }
  | .scy => { s with ppu := { s.ppu with scy := v } }
  | .scx => { s with ppu := { s.ppu with scx := v } }
  | .ly => s
  | .lyc => { s with ppu := { s.ppu with lyc := v } }
  | .dma => s.writeDma v
  | .bgp => { s with ppu := { s.ppu with bgp := v } }
  | .obp0 => { s with ppu := { s.ppu with obp0 := v } }
  | .obp1 => { s with ppu := { s.ppu with obp1 := v } }
  | .wy => { s with ppu := { s.ppu with wy := v } }
  | .wx => { s with ppu := { s.ppu with wx := v } }

/-! ### The bus -/

/-- The byte a CPU read of a place returns (rules R62, R71, R72, R78). -/
def State.readPlace (s : State) (p : Place) : Byte :=
  match p with
  | .rom i => s.cart.rom.read i
  | .vram i => s.ppu.readVram i
  | .extRam i => s.cart.extRam.read i
  | .wram i => s.wram.read i
  | .oam i => s.ppu.readOam i
  | .hram i => s.hram.read i
  | .io r => s.readIo r
  | .ie => s.irq.ie5.setWidth 8
  | .unclaimed => 0xFF

/-- `BusRead(a)`: no read changes any state and none faults (rules R62, R79). -/
def State.busRead (s : State) (a : Word) : Byte := s.readPlace (s.place a)

/-- `BusWrite(a, v)`: no write faults (rule R63). -/
def State.busWrite (s : State) (a : Word) (v : Byte) : State :=
  match s.place a with
  | .rom _ => { s with cart := s.cart.controlWrite a v }
  | .vram i => { s with ppu := s.ppu.writeVram i v }
  | .extRam i => { s with cart := { s.cart with extRam := s.cart.extRam.write i v } }
  | .wram i => { s with wram := s.wram.write i v }
  | .oam i => { s with ppu := s.ppu.writeOam i v }
  | .hram i => { s with hram := s.hram.write i v }
  | .io r => s.writeIo r v
  | .ie => { s with irq := { s.irq with ie5 := v.extractLsb' 0 5 } }
  | .unclaimed => s

end Sys2Proof.Machine
end

