-- ==== Sys2Proof/Machine/Flags.lean ====
section
/-! DEFINITION. Every result and flag computation of the instruction set, as functions of the operands
(rules R190, R203 to R222, R230, R233, R245 to R266). -/

namespace Sys2Proof.Machine

/-- The flags byte of the four flags, bits 7 to 4; the low nibble is zero (rules R22, R25). -/
def packFlags (z n h c : Bool) : Byte :=
  (bitByte z <<< 7) ||| (bitByte n <<< 6) ||| (bitByte h <<< 5) ||| (bitByte c <<< 4)

/-- The flag Zero of a flags byte (rule R25). -/
def zeroOf (f : Byte) : Bool := f.getLsbD 7
/-- The flag Subtract of a flags byte (rule R25). -/
def subtractOf (f : Byte) : Bool := f.getLsbD 6
/-- The flag Half-carry of a flags byte (rule R25). -/
def halfOf (f : Byte) : Bool := f.getLsbD 5
/-- The flag Carry of a flags byte (rule R25). -/
def carryOf (f : Byte) : Bool := f.getLsbD 4

/-- `Add8(a, b, c)` of rule R190: the result and the flags byte. -/
def add8 (a b : Byte) (c : Bool) : Byte × Byte :=
  let sum := a.toNat + b.toNat + c.toNat
  let res : Byte := BitVec.ofNat 8 sum
  (res, packFlags (res == 0) false (decide (a.toNat % 16 + b.toNat % 16 + c.toNat > 0x0F)) (decide (sum > 0xFF)))

/-- `Sub8(a, b, c)` of rule R190: the result and the flags byte. -/
def sub8 (a b : Byte) (c : Bool) : Byte × Byte :=
  let res : Byte := BitVec.ofInt 8 ((a.toNat : Int) - b.toNat - c.toNat)
  (res, packFlags (res == 0) true (decide (a.toNat % 16 < b.toNat % 16 + c.toNat))
    (decide (a.toNat < b.toNat + c.toNat)))

/-- The accumulator operations: the new A and the new F, from the old A, the operand and the old carry
(rules R191 to R214). CP leaves A. -/
def aluResult (k : AluOp) (a v : Byte) (cy : Bool) : Byte × Byte :=
  match k with
  | .add => add8 a v false
  | .adc => add8 a v cy
  | .sub => sub8 a v false
  | .sbc => sub8 a v cy
  | .and => (a &&& v, packFlags (a &&& v == 0) false true false)
  | .xor => (a ^^^ v, packFlags (a ^^^ v == 0) false false false)
  | .or => (a ||| v, packFlags (a ||| v == 0) false false false)
  | .cp => (a, (sub8 a v false).2)

/-- `INC` of an 8-bit location: the result and the flags byte; the carry is kept (rules R215, R216). -/
def incResult (v f : Byte) : Byte × Byte :=
  (v + 1, packFlags (v + 1 == 0) false (v &&& 0x0F == 0x0F) (carryOf f))

/-- `DEC` of an 8-bit location: the result and the flags byte; the carry is kept (rules R217, R218). -/
def decResult (v f : Byte) : Byte × Byte :=
  (v - 1, packFlags (v - 1 == 0) true (v &&& 0x0F == 0x00) (carryOf f))

/-- The adjustment DAA makes (rule R219). -/
def daaAdjust (a f : Byte) : Byte :=
  let low : Bool := halfOf f || (!subtractOf f && decide ((a &&& 0x0F).toNat > 0x09))
  let high : Bool := carryOf f || (!subtractOf f && decide (a.toNat > 0x99))
  (if low then 0x06 else 0x00) ||| (if high then 0x60 else 0x00)

/-- `DAA`: the new A and the new F (rule R219). -/
def daaResult (a f : Byte) : Byte × Byte :=
  let adj := daaAdjust a f
  let res := if subtractOf f then a - adj else a + adj
  (res, packFlags (res == 0) (subtractOf f) false (adj &&& 0x60 != 0))

/-- The flags of `ADD HL,rp`: carries out of bits 11 and 15; Zero is kept (rule R230). -/
def addHlFlags (a b : Word) (f : Byte) : Byte :=
  packFlags (zeroOf f) false (decide (a.toNat % 0x1000 + b.toNat % 0x1000 > 0x0FFF))
    (decide (a.toNat + b.toNat > 0xFFFF))

/-- The flags of `ADD SP,e` and `LD HL,SP+e`: the carries of adding the displacement byte, unsigned, to the low
byte of SP (rules R173, R233). -/
def spRelFlags (sp : Word) (e : Byte) : Byte :=
  packFlags false false (decide (sp.toNat % 16 + e.toNat % 16 > 0x0F)) (decide (sp.toNat % 256 + e.toNat > 0xFF))

/-- The rotates and shifts: the result and the carry out, from the operand and the old carry (rules R245 to
R260). -/
def rotResult (k : RotOp) (v : Byte) (cy : Bool) : Byte × Bool :=
  match k with
  | .rlc => ((v <<< 1) ||| bitByte (v.getLsbD 7), v.getLsbD 7)
  | .rrc => ((v >>> 1) ||| (bitByte (v.getLsbD 0) <<< 7), v.getLsbD 0)
  | .rl => ((v <<< 1) ||| bitByte cy, v.getLsbD 7)
  | .rr => ((v >>> 1) ||| (bitByte cy <<< 7), v.getLsbD 0)
  | .sla => (v <<< 1, v.getLsbD 7)
  | .sra => ((v >>> 1) ||| (v &&& 0x80), v.getLsbD 0)
  | .swap => ((v <<< 4) ||| (v >>> 4), false)
  | .srl => (v >>> 1, v.getLsbD 0)

/-- The flags of an extended rotate or shift (rules R245 to R260). -/
def rotFlags (r : Byte × Bool) : Byte := packFlags (r.1 == 0) false false r.2

/-- The flags of a rotate of A in the primary table: Zero is cleared (rules R240 to R243). -/
def rotAFlags (r : Byte × Bool) : Byte := packFlags false false false r.2

/-- The flags of `BIT b,x`; the carry is kept (rules R261, R262). -/
def bitFlags (b : Fin 8) (v f : Byte) : Byte := packFlags (!v.getLsbD b.val) false true (carryOf f)

/-- `RES`: bit `b` cleared (rules R263, R264). -/
def clearBit (b : Fin 8) (v : Byte) : Byte := v &&& ~~~((1 : Byte) <<< b.val)

/-- `SET`: bit `b` set (rules R265, R266). -/
def raiseBit (b : Fin 8) (v : Byte) : Byte := v ||| ((1 : Byte) <<< b.val)

end Sys2Proof.Machine
end

