-- ==== Sys2Proof/Machine/Ops.lean ====
section
/-! DEFINITION. The named operations every meaning is written over: registers, the end of an instruction, the
stack, and interrupt entry and return (rules R9, R20 to R27, R289, R343). Memory is reached through
`State.busRead` and `State.busWrite` only. -/

namespace Sys2Proof.Machine

/-- What a step ends in. -/
abbrev StepOutcome := Host.Outcome State Fault Refusal

/-! ### Registers -/

/-- A register by its code (rule R9). -/
def State.reg (s : State) (r : Reg8) : Byte :=
  match r with
  | .b => s.cpu.b
  | .c => s.cpu.c
  | .d => s.cpu.d
  | .e => s.cpu.e
  | .h => s.cpu.h
  | .l => s.cpu.l
  | .a => s.cpu.a

/-- A write of a register (rule R9). -/
def State.putReg (s : State) (r : Reg8) (v : Byte) : State :=
  match r with
  | .b => { s with cpu := { s.cpu with b := v } }
  | .c => { s with cpu := { s.cpu with c := v } }
  | .d => { s with cpu := { s.cpu with d := v } }
  | .e => { s with cpu := { s.cpu with e := v } }
  | .h => { s with cpu := { s.cpu with h := v } }
  | .l => { s with cpu := { s.cpu with l := v } }
  | .a => { s with cpu := { s.cpu with a := v } }

/-- A write of F: the low nibble is never stored (rule R22). -/
def State.putF (s : State) (v : Byte) : State := { s with cpu := { s.cpu with f := v &&& 0xF0 } }

/-- A write of the stack pointer. -/
def State.putSp (s : State) (v : Word) : State := { s with cpu := { s.cpu with sp := v } }

/-- A write of the program counter. -/
def State.putPc (s : State) (v : Word) : State := { s with cpu := { s.cpu with pc := v } }

/-- The pair BC (rule R21). -/
def State.bc (s : State) : Word := joinBytes s.cpu.b s.cpu.c
/-- The pair DE (rule R21). -/
def State.de (s : State) : Word := joinBytes s.cpu.d s.cpu.e
/-- The pair HL (rule R21). -/
def State.hl (s : State) : Word := joinBytes s.cpu.h s.cpu.l

/-- A write of HL (rule R21). -/
def State.putHl (s : State) (v : Word) : State := (s.putReg .h (hiByte v)).putReg .l (loByte v)

/-- `rp[p]` (rules R9, R21). -/
def State.pair (s : State) (p : Pair) : Word :=
  match p with
  | .bc => s.bc
  | .de => s.de
  | .hl => s.hl
  | .sp => s.cpu.sp

/-- A write of `rp[p]` (rules R9, R21). -/
def State.putPair (s : State) (p : Pair) (v : Word) : State :=
  match p with
  | .bc => (s.putReg .b (hiByte v)).putReg .c (loByte v)
  | .de => (s.putReg .d (hiByte v)).putReg .e (loByte v)
  | .hl => s.putHl v
  | .sp => s.putSp v

/-- `rp2[p]` (rules R9, R21). -/
def State.stackPair (s : State) (p : StackPair) : Word :=
  match p with
  | .bc => s.bc
  | .de => s.de
  | .hl => s.hl
  | .af => joinBytes s.cpu.a s.cpu.f

/-- A write of `rp2[p]`; a write of AF discards the low nibble of F (rules R21, R22). -/
def State.putStackPair (s : State) (p : StackPair) (v : Word) : State :=
  match p with
  | .bc => (s.putReg .b (hiByte v)).putReg .c (loByte v)
  | .de => (s.putReg .d (hiByte v)).putReg .e (loByte v)
  | .hl => s.putHl v
  | .af => (s.putReg .a (hiByte v)).putF (loByte v)

/-- `cond(k)`, on the flags at the start of the instruction (rule R291). -/
def State.cond (s : State) (k : Cond) : Bool :=
  match k with
  | .nz => !zeroOf s.cpu.f
  | .z => zeroOf s.cpu.f
  | .nc => !carryOf s.cpu.f
  | .c => carryOf s.cpu.f

/-! ### Fetch and end of an instruction -/

/-- `pc` after the `len` bytes of the instruction have been fetched (rules R24, R113). -/
def State.advance (s : State) (len : Nat) : State := s.putPc (s.cpu.pc + BitVec.ofNat 16 len)

/-- The state in which a step returned `ticks` (rules R9, R345). -/
def State.returning (s : State) (ticks : Nat) : State := { s with cycles := ticks }

/-- The end of an instruction: the next state, with the ticks the step returns (rules R9, R345). -/
def State.done (s : State) (ticks : Nat) : StepOutcome := .next (s.returning ticks)

/-! ### The stack -/

/-- `Push16(v)`: the high byte first, at the higher address (rules R9, R66). -/
def State.push16 (s : State) (v : Word) : State :=
  let s1 := s.putSp (s.cpu.sp - 1)
  let s2 := s1.busWrite s1.cpu.sp (hiByte v)
  let s3 := s2.putSp (s2.cpu.sp - 1)
  s3.busWrite s3.cpu.sp (loByte v)

/-- The word `Pop16()` reads: the low byte at SP, the high byte above it (rules R9, R66). -/
def State.stackTop (s : State) : Word := joinBytes (s.busRead (s.cpu.sp + 1)) (s.busRead s.cpu.sp)

/-- The state `Pop16()` leaves: SP past the two bytes (rule R9). -/
def State.dropTop (s : State) : State := s.putSp (s.cpu.sp + 2)

/-! ### Interrupt entry and return -/

/-- The interrupt service sequence, the one exception entry of the hardware: push `pc`, clear both latches, jump
to the vector, clear the one request bit, 20 ticks (rule R343). -/
def State.service (s : State) (k : IrqSource) : State :=
  let s1 := s.push16 s.cpu.pc
  { s1 with
    cpu := { s1.cpu with ime := false, imePending := false, pc := k.vector }
    irq := s1.irq.clear k
    cycles := 20 }

/-- The return from an interrupt: pop `pc` and set the latch at once (rules R289, R344). -/
def State.returnFromInterrupt (s : State) : State :=
  let target := s.stackTop
  let s1 := s.dropTop.putPc target
  { s1 with cpu := { s1.cpu with ime := true } }

end Sys2Proof.Machine
end

