-- ==== Sys2Proof/Machine/Operands.lean ====
section
/-! DEFINITION. The operand forms of the instruction set (rules R9, R115, R116): registers, the byte at HL, at a
pair, at an absolute address and in the high page, and HL with its update. -/

namespace Sys2Proof.Machine

/-- The byte at address HL, code 6 of `r[ ]` (rule R115). -/
def State.atHl (s : State) : Byte := s.busRead s.hl

/-- A store to the byte at address HL (rule R115). -/
def State.storeHl (s : State) (v : Byte) : State := s.busWrite s.hl v

/-- HL after the increment of `(HL+)` (rules R155, R157). -/
def State.bumpHl (s : State) : State := s.putHl (s.hl + 1)

/-- HL after the decrement of `(HL-)` (rules R156, R158). -/
def State.dropHl (s : State) : State := s.putHl (s.hl - 1)

/-- The target of a relative jump; `pc` already stands past the displacement (rule R283). -/
def State.relTarget (s : State) (e : Byte) : Word := s.cpu.pc + sext16 e

/-- The address of `(C)` (rule R116). -/
def State.highC (s : State) : Word := highPage s.cpu.c

end Sys2Proof.Machine
end

