-- ==== Sys2Proof/Machine/Alu16.lean ====
section
/-! DEFINITION. The meanings: 16-bit arithmetic (43_alu16.md). An instruction starts with `pc` at its
first byte; `State.advance` moves `pc` past its bytes before the operation runs (rule R113). -/

namespace Sys2Proof.Machine

/-! ### Shared operations -/

/-- `ADD HL,rp` (rule R230). -/
def addHlPair (p : Pair) (s : State) : StepOutcome :=
  let s1 := s.advance 1
  let x := s1.pair p
  ((s1.putHl (s1.hl + x)).putF (addHlFlags s1.hl x s1.cpu.f)).done 8

/-- `INC rp` (rule R231). -/
def incPair (p : Pair) (s : State) : StepOutcome :=
  let s1 := s.advance 1
  (s1.putPair p (s1.pair p + 1)).done 8

/-- `DEC rp` (rule R232). -/
def decPair (p : Pair) (s : State) : StepOutcome :=
  let s1 := s.advance 1
  (s1.putPair p (s1.pair p - 1)).done 8

/-! ### One meaning for each instruction -/

/-- `INC BC` (rule R231). -/
def execIncBc (s : State) : StepOutcome := incPair .bc s

/-- `ADD HL,BC` (rule R230). -/
def execAddHlBc (s : State) : StepOutcome := addHlPair .bc s

/-- `DEC BC` (rule R232). -/
def execDecBc (s : State) : StepOutcome := decPair .bc s

/-- `INC DE` (rule R231). -/
def execIncDe (s : State) : StepOutcome := incPair .de s

/-- `ADD HL,DE` (rule R230). -/
def execAddHlDe (s : State) : StepOutcome := addHlPair .de s

/-- `DEC DE` (rule R232). -/
def execDecDe (s : State) : StepOutcome := decPair .de s

/-- `INC HL` (rule R231). -/
def execIncHl (s : State) : StepOutcome := incPair .hl s

/-- `ADD HL,HL` (rule R230). -/
def execAddHlHl (s : State) : StepOutcome := addHlPair .hl s

/-- `DEC HL` (rule R232). -/
def execDecHl (s : State) : StepOutcome := decPair .hl s

/-- `INC SP` (rule R231). -/
def execIncSp (s : State) : StepOutcome := incPair .sp s

/-- `ADD HL,SP` (rule R230). -/
def execAddHlSp (s : State) : StepOutcome := addHlPair .sp s

/-- `DEC SP` (rule R232). -/
def execDecSp (s : State) : StepOutcome := decPair .sp s

/-- `ADD SP,e` (rule R233). -/
def execAddSpRel (e : Byte) (s : State) : StepOutcome :=
  let s1 := s.advance 2
  ((s1.putSp (s1.cpu.sp + sext16 e)).putF (spRelFlags s1.cpu.sp e)).done 16

end Sys2Proof.Machine
end

