-- ==== Sys2Proof/Machine/Alu8.lean ====
section
/-! DEFINITION. The meanings: 8-bit arithmetic and logic (42_alu8.md). An instruction starts with `pc` at its
first byte; `State.advance` moves `pc` past its bytes before the operation runs (rule R113). -/

namespace Sys2Proof.Machine

/-! ### Shared operations -/

/-- An accumulator operation on an operand: A and F from the old A, the operand and the old carry (rules R191 to
R214). -/
def State.accumulate (s : State) (k : AluOp) (v : Byte) : State :=
  let r := aluResult k s.cpu.a v (carryOf s.cpu.f)
  (s.putReg .a r.1).putF r.2

/-- `alu A,r` (rules R191, R194, R197, R200, R203, R206, R209, R212). -/
def aluOnReg (k : AluOp) (src : Reg8) (s : State) : StepOutcome :=
  let s1 := s.advance 1
  (s1.accumulate k (s1.reg src)).done 4

/-- `alu A,(HL)` (rules R192, R195, R198, R201, R204, R207, R210, R213). -/
def aluOnHl (k : AluOp) (s : State) : StepOutcome :=
  let s1 := s.advance 1
  (s1.accumulate k s1.atHl).done 8

/-- `alu A,n` (rules R193, R196, R199, R202, R205, R208, R211, R214). -/
def aluOnImm (k : AluOp) (n : Byte) (s : State) : StepOutcome := ((s.advance 2).accumulate k n).done 8

/-- `INC r` (rule R215). -/
def incReg (x : Reg8) (s : State) : StepOutcome :=
  let s1 := s.advance 1
  let r := incResult (s1.reg x) s1.cpu.f
  ((s1.putReg x r.1).putF r.2).done 4

/-- `DEC r` (rule R217). -/
def decReg (x : Reg8) (s : State) : StepOutcome :=
  let s1 := s.advance 1
  let r := decResult (s1.reg x) s1.cpu.f
  ((s1.putReg x r.1).putF r.2).done 4

/-! ### One meaning for each instruction -/

/-- `INC B` (rule R215). -/
def execIncB (s : State) : StepOutcome := incReg .b s

/-- `DEC B` (rule R217). -/
def execDecB (s : State) : StepOutcome := decReg .b s

/-- `INC C` (rule R215). -/
def execIncC (s : State) : StepOutcome := incReg .c s

/-- `DEC C` (rule R217). -/
def execDecC (s : State) : StepOutcome := decReg .c s

/-- `INC D` (rule R215). -/
def execIncD (s : State) : StepOutcome := incReg .d s

/-- `DEC D` (rule R217). -/
def execDecD (s : State) : StepOutcome := decReg .d s

/-- `INC E` (rule R215). -/
def execIncE (s : State) : StepOutcome := incReg .e s

/-- `DEC E` (rule R217). -/
def execDecE (s : State) : StepOutcome := decReg .e s

/-- `INC H` (rule R215). -/
def execIncH (s : State) : StepOutcome := incReg .h s

/-- `DEC H` (rule R217). -/
def execDecH (s : State) : StepOutcome := decReg .h s

/-- `DAA` (rule R219). -/
def execDaa (s : State) : StepOutcome :=
  let s1 := s.advance 1
  let r := daaResult s1.cpu.a s1.cpu.f
  ((s1.putReg .a r.1).putF r.2).done 4

/-- `INC L` (rule R215). -/
def execIncL (s : State) : StepOutcome := incReg .l s

/-- `DEC L` (rule R217). -/
def execDecL (s : State) : StepOutcome := decReg .l s

/-- `CPL` (rule R220). -/
def execCpl (s : State) : StepOutcome :=
  let s1 := s.advance 1
  ((s1.putReg .a (s1.cpu.a ^^^ 0xFF)).putF
    (packFlags (zeroOf s1.cpu.f) true true (carryOf s1.cpu.f))).done 4

/-- `INC (HL)` (rule R216). -/
def execIncIndHl (s : State) : StepOutcome :=
  let s1 := s.advance 1
  let r := incResult s1.atHl s1.cpu.f
  ((s1.storeHl r.1).putF r.2).done 12

/-- `DEC (HL)` (rule R218). -/
def execDecIndHl (s : State) : StepOutcome :=
  let s1 := s.advance 1
  let r := decResult s1.atHl s1.cpu.f
  ((s1.storeHl r.1).putF r.2).done 12

/-- `SCF` (rule R221). -/
def execScf (s : State) : StepOutcome :=
  let s1 := s.advance 1
  (s1.putF (packFlags (zeroOf s1.cpu.f) false false true)).done 4

/-- `INC A` (rule R215). -/
def execIncA (s : State) : StepOutcome := incReg .a s

/-- `DEC A` (rule R217). -/
def execDecA (s : State) : StepOutcome := decReg .a s

/-- `CCF` (rule R222). -/
def execCcf (s : State) : StepOutcome :=
  let s1 := s.advance 1
  (s1.putF (packFlags (zeroOf s1.cpu.f) false false (!carryOf s1.cpu.f))).done 4

/-- `ADD A,B` (rule R191). -/
def execAddAB (s : State) : StepOutcome := aluOnReg .add .b s

/-- `ADD A,C` (rule R191). -/
def execAddAC (s : State) : StepOutcome := aluOnReg .add .c s

/-- `ADD A,D` (rule R191). -/
def execAddAD (s : State) : StepOutcome := aluOnReg .add .d s

/-- `ADD A,E` (rule R191). -/
def execAddAE (s : State) : StepOutcome := aluOnReg .add .e s

/-- `ADD A,H` (rule R191). -/
def execAddAH (s : State) : StepOutcome := aluOnReg .add .h s

/-- `ADD A,L` (rule R191). -/
def execAddAL (s : State) : StepOutcome := aluOnReg .add .l s

/-- `ADD A,(HL)` (rule R192). -/
def execAddAIndHl (s : State) : StepOutcome := aluOnHl .add s

/-- `ADD A,A` (rule R191). -/
def execAddAA (s : State) : StepOutcome := aluOnReg .add .a s

/-- `ADC A,B` (rule R194). -/
def execAdcAB (s : State) : StepOutcome := aluOnReg .adc .b s

/-- `ADC A,C` (rule R194). -/
def execAdcAC (s : State) : StepOutcome := aluOnReg .adc .c s

/-- `ADC A,D` (rule R194). -/
def execAdcAD (s : State) : StepOutcome := aluOnReg .adc .d s

/-- `ADC A,E` (rule R194). -/
def execAdcAE (s : State) : StepOutcome := aluOnReg .adc .e s

/-- `ADC A,H` (rule R194). -/
def execAdcAH (s : State) : StepOutcome := aluOnReg .adc .h s

/-- `ADC A,L` (rule R194). -/
def execAdcAL (s : State) : StepOutcome := aluOnReg .adc .l s

/-- `ADC A,(HL)` (rule R195). -/
def execAdcAIndHl (s : State) : StepOutcome := aluOnHl .adc s

/-- `ADC A,A` (rule R194). -/
def execAdcAA (s : State) : StepOutcome := aluOnReg .adc .a s

/-- `SUB B` (rule R197). -/
def execSubB (s : State) : StepOutcome := aluOnReg .sub .b s

/-- `SUB C` (rule R197). -/
def execSubC (s : State) : StepOutcome := aluOnReg .sub .c s

/-- `SUB D` (rule R197). -/
def execSubD (s : State) : StepOutcome := aluOnReg .sub .d s

/-- `SUB E` (rule R197). -/
def execSubE (s : State) : StepOutcome := aluOnReg .sub .e s

/-- `SUB H` (rule R197). -/
def execSubH (s : State) : StepOutcome := aluOnReg .sub .h s

/-- `SUB L` (rule R197). -/
def execSubL (s : State) : StepOutcome := aluOnReg .sub .l s

/-- `SUB (HL)` (rule R198). -/
def execSubIndHl (s : State) : StepOutcome := aluOnHl .sub s

/-- `SUB A` (rule R197). -/
def execSubA (s : State) : StepOutcome := aluOnReg .sub .a s

/-- `SBC A,B` (rule R200). -/
def execSbcAB (s : State) : StepOutcome := aluOnReg .sbc .b s

/-- `SBC A,C` (rule R200). -/
def execSbcAC (s : State) : StepOutcome := aluOnReg .sbc .c s

/-- `SBC A,D` (rule R200). -/
def execSbcAD (s : State) : StepOutcome := aluOnReg .sbc .d s

/-- `SBC A,E` (rule R200). -/
def execSbcAE (s : State) : StepOutcome := aluOnReg .sbc .e s

/-- `SBC A,H` (rule R200). -/
def execSbcAH (s : State) : StepOutcome := aluOnReg .sbc .h s

/-- `SBC A,L` (rule R200). -/
def execSbcAL (s : State) : StepOutcome := aluOnReg .sbc .l s

/-- `SBC A,(HL)` (rule R201). -/
def execSbcAIndHl (s : State) : StepOutcome := aluOnHl .sbc s

/-- `SBC A,A` (rule R200). -/
def execSbcAA (s : State) : StepOutcome := aluOnReg .sbc .a s

/-- `AND B` (rule R203). -/
def execAndB (s : State) : StepOutcome := aluOnReg .and .b s

/-- `AND C` (rule R203). -/
def execAndC (s : State) : StepOutcome := aluOnReg .and .c s

/-- `AND D` (rule R203). -/
def execAndD (s : State) : StepOutcome := aluOnReg .and .d s

/-- `AND E` (rule R203). -/
def execAndE (s : State) : StepOutcome := aluOnReg .and .e s

/-- `AND H` (rule R203). -/
def execAndH (s : State) : StepOutcome := aluOnReg .and .h s

/-- `AND L` (rule R203). -/
def execAndL (s : State) : StepOutcome := aluOnReg .and .l s

/-- `AND (HL)` (rule R204). -/
def execAndIndHl (s : State) : StepOutcome := aluOnHl .and s

/-- `AND A` (rule R203). -/
def execAndA (s : State) : StepOutcome := aluOnReg .and .a s

/-- `XOR B` (rule R206). -/
def execXorB (s : State) : StepOutcome := aluOnReg .xor .b s

/-- `XOR C` (rule R206). -/
def execXorC (s : State) : StepOutcome := aluOnReg .xor .c s

/-- `XOR D` (rule R206). -/
def execXorD (s : State) : StepOutcome := aluOnReg .xor .d s

/-- `XOR E` (rule R206). -/
def execXorE (s : State) : StepOutcome := aluOnReg .xor .e s

/-- `XOR H` (rule R206). -/
def execXorH (s : State) : StepOutcome := aluOnReg .xor .h s

/-- `XOR L` (rule R206). -/
def execXorL (s : State) : StepOutcome := aluOnReg .xor .l s

/-- `XOR (HL)` (rule R207). -/
def execXorIndHl (s : State) : StepOutcome := aluOnHl .xor s

/-- `XOR A` (rule R206). -/
def execXorA (s : State) : StepOutcome := aluOnReg .xor .a s

/-- `OR B` (rule R209). -/
def execOrB (s : State) : StepOutcome := aluOnReg .or .b s

/-- `OR C` (rule R209). -/
def execOrC (s : State) : StepOutcome := aluOnReg .or .c s

/-- `OR D` (rule R209). -/
def execOrD (s : State) : StepOutcome := aluOnReg .or .d s

/-- `OR E` (rule R209). -/
def execOrE (s : State) : StepOutcome := aluOnReg .or .e s

/-- `OR H` (rule R209). -/
def execOrH (s : State) : StepOutcome := aluOnReg .or .h s

/-- `OR L` (rule R209). -/
def execOrL (s : State) : StepOutcome := aluOnReg .or .l s

/-- `OR (HL)` (rule R210). -/
def execOrIndHl (s : State) : StepOutcome := aluOnHl .or s

/-- `OR A` (rule R209). -/
def execOrA (s : State) : StepOutcome := aluOnReg .or .a s

/-- `CP B` (rule R212). -/
def execCpB (s : State) : StepOutcome := aluOnReg .cp .b s

/-- `CP C` (rule R212). -/
def execCpC (s : State) : StepOutcome := aluOnReg .cp .c s

/-- `CP D` (rule R212). -/
def execCpD (s : State) : StepOutcome := aluOnReg .cp .d s

/-- `CP E` (rule R212). -/
def execCpE (s : State) : StepOutcome := aluOnReg .cp .e s

/-- `CP H` (rule R212). -/
def execCpH (s : State) : StepOutcome := aluOnReg .cp .h s

/-- `CP L` (rule R212). -/
def execCpL (s : State) : StepOutcome := aluOnReg .cp .l s

/-- `CP (HL)` (rule R213). -/
def execCpIndHl (s : State) : StepOutcome := aluOnHl .cp s

/-- `CP A` (rule R212). -/
def execCpA (s : State) : StepOutcome := aluOnReg .cp .a s

/-- `ADD A,n` (rule R193). -/
def execAddAImm (n : Byte) (s : State) : StepOutcome := aluOnImm .add n s

/-- `ADC A,n` (rule R196). -/
def execAdcAImm (n : Byte) (s : State) : StepOutcome := aluOnImm .adc n s

/-- `SUB n` (rule R199). -/
def execSubImm (n : Byte) (s : State) : StepOutcome := aluOnImm .sub n s

/-- `SBC A,n` (rule R202). -/
def execSbcAImm (n : Byte) (s : State) : StepOutcome := aluOnImm .sbc n s

/-- `AND n` (rule R205). -/
def execAndImm (n : Byte) (s : State) : StepOutcome := aluOnImm .and n s

/-- `XOR n` (rule R208). -/
def execXorImm (n : Byte) (s : State) : StepOutcome := aluOnImm .xor n s

/-- `OR n` (rule R211). -/
def execOrImm (n : Byte) (s : State) : StepOutcome := aluOnImm .or n s

/-- `CP n` (rule R214). -/
def execCpImm (n : Byte) (s : State) : StepOutcome := aluOnImm .cp n s

end Sys2Proof.Machine
end

