-- ==== Sys2Proof/Machine/Control.lean ====
section
/-! DEFINITION. The meanings: Jumps, calls, returns and restarts (45_control_flow.md). An instruction starts with `pc` at its
first byte; `State.advance` moves `pc` past its bytes before the operation runs (rule R113). -/

namespace Sys2Proof.Machine

/-! ### Shared operations -/

/-- `JP cc,nn` (rule R281). -/
def jumpIf (k : Cond) (nn : Word) (s : State) : StepOutcome :=
  let s1 := s.advance 3
  if s1.cond k then (s1.putPc nn).done 16 else s1.done 12

/-- `JR cc,e` (rule R284). -/
def jumpRelIf (k : Cond) (e : Byte) (s : State) : StepOutcome :=
  let s1 := s.advance 2
  if s1.cond k then (s1.putPc (s1.relTarget e)).done 12 else s1.done 8

/-- `CALL cc,nn` (rule R286). -/
def callIf (k : Cond) (nn : Word) (s : State) : StepOutcome :=
  let s1 := s.advance 3
  if s1.cond k then ((s1.push16 s1.cpu.pc).putPc nn).done 24 else s1.done 12

/-- `RET cc` (rule R288). -/
def returnIf (k : Cond) (s : State) : StepOutcome :=
  let s1 := s.advance 1
  if s1.cond k then (s1.dropTop.putPc s1.stackTop).done 20 else s1.done 8

/-- `RST t` (rule R290). -/
def restart (t : Word) (s : State) : StepOutcome :=
  let s1 := s.advance 1
  ((s1.push16 s1.cpu.pc).putPc t).done 16

/-! ### One meaning for each instruction -/

/-- `JR e` (rule R283). -/
def execJrRel (e : Byte) (s : State) : StepOutcome :=
  let s1 := s.advance 2
  (s1.putPc (s1.relTarget e)).done 12

/-- `JR NZ,e` (rule R284). -/
def execJrNzRel (e : Byte) (s : State) : StepOutcome := jumpRelIf .nz e s

/-- `JR Z,e` (rule R284). -/
def execJrZRel (e : Byte) (s : State) : StepOutcome := jumpRelIf .z e s

/-- `JR NC,e` (rule R284). -/
def execJrNcRel (e : Byte) (s : State) : StepOutcome := jumpRelIf .nc e s

/-- `JR C,e` (rule R284). -/
def execJrCRel (e : Byte) (s : State) : StepOutcome := jumpRelIf .c e s

/-- `RET NZ` (rule R288). -/
def execRetNz (s : State) : StepOutcome := returnIf .nz s

/-- `JP NZ,nn` (rule R281). -/
def execJpNzImm (nn : Word) (s : State) : StepOutcome := jumpIf .nz nn s

/-- `JP nn` (rule R280). -/
def execJpImm (nn : Word) (s : State) : StepOutcome := ((s.advance 3).putPc nn).done 16

/-- `CALL NZ,nn` (rule R286). -/
def execCallNzImm (nn : Word) (s : State) : StepOutcome := callIf .nz nn s

/-- `RST 00h` (rule R290). -/
def execRst00 (s : State) : StepOutcome := restart 0x00 s

/-- `RET Z` (rule R288). -/
def execRetZ (s : State) : StepOutcome := returnIf .z s

/-- `RET` (rule R287). -/
def execRet (s : State) : StepOutcome :=
  let s1 := s.advance 1
  (s1.dropTop.putPc s1.stackTop).done 16

/-- `JP Z,nn` (rule R281). -/
def execJpZImm (nn : Word) (s : State) : StepOutcome := jumpIf .z nn s

/-- `CALL Z,nn` (rule R286). -/
def execCallZImm (nn : Word) (s : State) : StepOutcome := callIf .z nn s

/-- `CALL nn` (rule R285). -/
def execCallImm (nn : Word) (s : State) : StepOutcome :=
  let s1 := s.advance 3
  ((s1.push16 s1.cpu.pc).putPc nn).done 24

/-- `RST 08h` (rule R290). -/
def execRst08 (s : State) : StepOutcome := restart 0x08 s

/-- `RET NC` (rule R288). -/
def execRetNc (s : State) : StepOutcome := returnIf .nc s

/-- `JP NC,nn` (rule R281). -/
def execJpNcImm (nn : Word) (s : State) : StepOutcome := jumpIf .nc nn s

/-- `CALL NC,nn` (rule R286). -/
def execCallNcImm (nn : Word) (s : State) : StepOutcome := callIf .nc nn s

/-- `RST 10h` (rule R290). -/
def execRst10 (s : State) : StepOutcome := restart 0x10 s

/-- `RET C` (rule R288). -/
def execRetC (s : State) : StepOutcome := returnIf .c s

/-- `RETI` (rule R289). -/
def execReti (s : State) : StepOutcome := (s.advance 1).returnFromInterrupt.done 16

/-- `JP C,nn` (rule R281). -/
def execJpCImm (nn : Word) (s : State) : StepOutcome := jumpIf .c nn s

/-- `CALL C,nn` (rule R286). -/
def execCallCImm (nn : Word) (s : State) : StepOutcome := callIf .c nn s

/-- `RST 18h` (rule R290). -/
def execRst18 (s : State) : StepOutcome := restart 0x18 s

/-- `RST 20h` (rule R290). -/
def execRst20 (s : State) : StepOutcome := restart 0x20 s

/-- `JP HL` (rule R282). -/
def execJpHl (s : State) : StepOutcome :=
  let s1 := s.advance 1
  (s1.putPc s1.hl).done 4

/-- `RST 28h` (rule R290). -/
def execRst28 (s : State) : StepOutcome := restart 0x28 s

/-- `RST 30h` (rule R290). -/
def execRst30 (s : State) : StepOutcome := restart 0x30 s

/-- `RST 38h` (rule R290). -/
def execRst38 (s : State) : StepOutcome := restart 0x38 s

end Sys2Proof.Machine
end

