-- ==== Sys2Proof/Machine/Extended.lean ====
section
/-! DEFINITION. The meanings: The extended table behind the prefix byte (rules R244 to R266), and the prefix row. An instruction starts with `pc` at its
first byte; `State.advance` moves `pc` past its bytes before the operation runs (rule R113). -/

namespace Sys2Proof.Machine

/-! ### Shared operations -/

/-- `rot r` (rules R245, R247, R249, R251, R253, R255, R257, R259). -/
def rotOnReg (k : RotOp) (x : Reg8) (s : State) : StepOutcome :=
  let s1 := s.advance 2
  let r := rotResult k (s1.reg x) (carryOf s1.cpu.f)
  ((s1.putReg x r.1).putF (rotFlags r)).done 8

/-- `rot (HL)` (rules R246, R248, R250, R252, R254, R256, R258, R260). -/
def rotOnHl (k : RotOp) (s : State) : StepOutcome :=
  let s1 := s.advance 2
  let r := rotResult k s1.atHl (carryOf s1.cpu.f)
  ((s1.storeHl r.1).putF (rotFlags r)).done 16

/-- `BIT b,r` (rule R261). -/
def bitOnReg (b : Fin 8) (x : Reg8) (s : State) : StepOutcome :=
  let s1 := s.advance 2
  (s1.putF (bitFlags b (s1.reg x) s1.cpu.f)).done 8

/-- `BIT b,(HL)` (rule R262). -/
def bitOnHl (b : Fin 8) (s : State) : StepOutcome :=
  let s1 := s.advance 2
  (s1.putF (bitFlags b s1.atHl s1.cpu.f)).done 12

/-- `RES b,r` (rule R263). -/
def resOnReg (b : Fin 8) (x : Reg8) (s : State) : StepOutcome :=
  let s1 := s.advance 2
  (s1.putReg x (clearBit b (s1.reg x))).done 8

/-- `RES b,(HL)` (rule R264). -/
def resOnHl (b : Fin 8) (s : State) : StepOutcome :=
  let s1 := s.advance 2
  (s1.storeHl (clearBit b s1.atHl)).done 16

/-- `SET b,r` (rule R265). -/
def setOnReg (b : Fin 8) (x : Reg8) (s : State) : StepOutcome :=
  let s1 := s.advance 2
  (s1.putReg x (raiseBit b (s1.reg x))).done 8

/-- `SET b,(HL)` (rule R266). -/
def setOnHl (b : Fin 8) (s : State) : StepOutcome :=
  let s1 := s.advance 2
  (s1.storeHl (raiseBit b s1.atHl)).done 16

/-- The entry of the extended table that `op2` selects by its fields (rules R121, R244). -/
def extendedEntry (op2 : Byte) (s : State) : StepOutcome :=
  let y := fieldY op2
  match (fieldX op2).toNat, Reg8.ofCode (fieldZ op2) with
  | 0, some r => rotOnReg (RotOp.ofCode y) r s
  | 0, none => rotOnHl (RotOp.ofCode y) s
  | 1, some r => bitOnReg y.toFin r s
  | 1, none => bitOnHl y.toFin s
  | 2, some r => resOnReg y.toFin r s
  | 2, none => resOnHl y.toFin s
  | _, some r => setOnReg y.toFin r s
  | _, none => setOnHl y.toFin s

/-! ### One meaning for each instruction -/

/-- `PREFIX CB` (rule R244). -/
def execPrefixCb (op2 : Byte) (s : State) : StepOutcome := extendedEntry op2 s

/-- `RLC B` (rule R245). -/
def execRlcB (s : State) : StepOutcome := rotOnReg .rlc .b s

/-- `RLC C` (rule R245). -/
def execRlcC (s : State) : StepOutcome := rotOnReg .rlc .c s

/-- `RLC D` (rule R245). -/
def execRlcD (s : State) : StepOutcome := rotOnReg .rlc .d s

/-- `RLC E` (rule R245). -/
def execRlcE (s : State) : StepOutcome := rotOnReg .rlc .e s

/-- `RLC H` (rule R245). -/
def execRlcH (s : State) : StepOutcome := rotOnReg .rlc .h s

/-- `RLC L` (rule R245). -/
def execRlcL (s : State) : StepOutcome := rotOnReg .rlc .l s

/-- `RLC (HL)` (rule R246). -/
def execRlcIndHl (s : State) : StepOutcome := rotOnHl .rlc s

/-- `RLC A` (rule R245). -/
def execRlcA (s : State) : StepOutcome := rotOnReg .rlc .a s

/-- `RRC B` (rule R247). -/
def execRrcB (s : State) : StepOutcome := rotOnReg .rrc .b s

/-- `RRC C` (rule R247). -/
def execRrcC (s : State) : StepOutcome := rotOnReg .rrc .c s

/-- `RRC D` (rule R247). -/
def execRrcD (s : State) : StepOutcome := rotOnReg .rrc .d s

/-- `RRC E` (rule R247). -/
def execRrcE (s : State) : StepOutcome := rotOnReg .rrc .e s

/-- `RRC H` (rule R247). -/
def execRrcH (s : State) : StepOutcome := rotOnReg .rrc .h s

/-- `RRC L` (rule R247). -/
def execRrcL (s : State) : StepOutcome := rotOnReg .rrc .l s

/-- `RRC (HL)` (rule R248). -/
def execRrcIndHl (s : State) : StepOutcome := rotOnHl .rrc s

/-- `RRC A` (rule R247). -/
def execRrcA (s : State) : StepOutcome := rotOnReg .rrc .a s

/-- `RL B` (rule R249). -/
def execRlB (s : State) : StepOutcome := rotOnReg .rl .b s

/-- `RL C` (rule R249). -/
def execRlC (s : State) : StepOutcome := rotOnReg .rl .c s

/-- `RL D` (rule R249). -/
def execRlD (s : State) : StepOutcome := rotOnReg .rl .d s

/-- `RL E` (rule R249). -/
def execRlE (s : State) : StepOutcome := rotOnReg .rl .e s

/-- `RL H` (rule R249). -/
def execRlH (s : State) : StepOutcome := rotOnReg .rl .h s

/-- `RL L` (rule R249). -/
def execRlL (s : State) : StepOutcome := rotOnReg .rl .l s

/-- `RL (HL)` (rule R250). -/
def execRlIndHl (s : State) : StepOutcome := rotOnHl .rl s

/-- `RL A` (rule R249). -/
def execRlA (s : State) : StepOutcome := rotOnReg .rl .a s

/-- `RR B` (rule R251). -/
def execRrB (s : State) : StepOutcome := rotOnReg .rr .b s

/-- `RR C` (rule R251). -/
def execRrC (s : State) : StepOutcome := rotOnReg .rr .c s

/-- `RR D` (rule R251). -/
def execRrD (s : State) : StepOutcome := rotOnReg .rr .d s

/-- `RR E` (rule R251). -/
def execRrE (s : State) : StepOutcome := rotOnReg .rr .e s

/-- `RR H` (rule R251). -/
def execRrH (s : State) : StepOutcome := rotOnReg .rr .h s

/-- `RR L` (rule R251). -/
def execRrL (s : State) : StepOutcome := rotOnReg .rr .l s

/-- `RR (HL)` (rule R252). -/
def execRrIndHl (s : State) : StepOutcome := rotOnHl .rr s

/-- `RR A` (rule R251). -/
def execRrA (s : State) : StepOutcome := rotOnReg .rr .a s

/-- `SLA B` (rule R253). -/
def execSlaB (s : State) : StepOutcome := rotOnReg .sla .b s

/-- `SLA C` (rule R253). -/
def execSlaC (s : State) : StepOutcome := rotOnReg .sla .c s

/-- `SLA D` (rule R253). -/
def execSlaD (s : State) : StepOutcome := rotOnReg .sla .d s

/-- `SLA E` (rule R253). -/
def execSlaE (s : State) : StepOutcome := rotOnReg .sla .e s

/-- `SLA H` (rule R253). -/
def execSlaH (s : State) : StepOutcome := rotOnReg .sla .h s

/-- `SLA L` (rule R253). -/
def execSlaL (s : State) : StepOutcome := rotOnReg .sla .l s

/-- `SLA (HL)` (rule R254). -/
def execSlaIndHl (s : State) : StepOutcome := rotOnHl .sla s

/-- `SLA A` (rule R253). -/
def execSlaA (s : State) : StepOutcome := rotOnReg .sla .a s

/-- `SRA B` (rule R255). -/
def execSraB (s : State) : StepOutcome := rotOnReg .sra .b s

/-- `SRA C` (rule R255). -/
def execSraC (s : State) : StepOutcome := rotOnReg .sra .c s

/-- `SRA D` (rule R255). -/
def execSraD (s : State) : StepOutcome := rotOnReg .sra .d s

/-- `SRA E` (rule R255). -/
def execSraE (s : State) : StepOutcome := rotOnReg .sra .e s

/-- `SRA H` (rule R255). -/
def execSraH (s : State) : StepOutcome := rotOnReg .sra .h s

/-- `SRA L` (rule R255). -/
def execSraL (s : State) : StepOutcome := rotOnReg .sra .l s

/-- `SRA (HL)` (rule R256). -/
def execSraIndHl (s : State) : StepOutcome := rotOnHl .sra s

/-- `SRA A` (rule R255). -/
def execSraA (s : State) : StepOutcome := rotOnReg .sra .a s

/-- `SWAP B` (rule R257). -/
def execSwapB (s : State) : StepOutcome := rotOnReg .swap .b s

/-- `SWAP C` (rule R257). -/
def execSwapC (s : State) : StepOutcome := rotOnReg .swap .c s

/-- `SWAP D` (rule R257). -/
def execSwapD (s : State) : StepOutcome := rotOnReg .swap .d s

/-- `SWAP E` (rule R257). -/
def execSwapE (s : State) : StepOutcome := rotOnReg .swap .e s

/-- `SWAP H` (rule R257). -/
def execSwapH (s : State) : StepOutcome := rotOnReg .swap .h s

/-- `SWAP L` (rule R257). -/
def execSwapL (s : State) : StepOutcome := rotOnReg .swap .l s

/-- `SWAP (HL)` (rule R258). -/
def execSwapIndHl (s : State) : StepOutcome := rotOnHl .swap s

/-- `SWAP A` (rule R257). -/
def execSwapA (s : State) : StepOutcome := rotOnReg .swap .a s

/-- `SRL B` (rule R259). -/
def execSrlB (s : State) : StepOutcome := rotOnReg .srl .b s

/-- `SRL C` (rule R259). -/
def execSrlC (s : State) : StepOutcome := rotOnReg .srl .c s

/-- `SRL D` (rule R259). -/
def execSrlD (s : State) : StepOutcome := rotOnReg .srl .d s

/-- `SRL E` (rule R259). -/
def execSrlE (s : State) : StepOutcome := rotOnReg .srl .e s

/-- `SRL H` (rule R259). -/
def execSrlH (s : State) : StepOutcome := rotOnReg .srl .h s

/-- `SRL L` (rule R259). -/
def execSrlL (s : State) : StepOutcome := rotOnReg .srl .l s

/-- `SRL (HL)` (rule R260). -/
def execSrlIndHl (s : State) : StepOutcome := rotOnHl .srl s

/-- `SRL A` (rule R259). -/
def execSrlA (s : State) : StepOutcome := rotOnReg .srl .a s

/-- `BIT 0,B` (rule R261). -/
def execBit0B (s : State) : StepOutcome := bitOnReg 0 .b s

/-- `BIT 0,C` (rule R261). -/
def execBit0C (s : State) : StepOutcome := bitOnReg 0 .c s

/-- `BIT 0,D` (rule R261). -/
def execBit0D (s : State) : StepOutcome := bitOnReg 0 .d s

/-- `BIT 0,E` (rule R261). -/
def execBit0E (s : State) : StepOutcome := bitOnReg 0 .e s

/-- `BIT 0,H` (rule R261). -/
def execBit0H (s : State) : StepOutcome := bitOnReg 0 .h s

/-- `BIT 0,L` (rule R261). -/
def execBit0L (s : State) : StepOutcome := bitOnReg 0 .l s

/-- `BIT 0,(HL)` (rule R262). -/
def execBit0IndHl (s : State) : StepOutcome := bitOnHl 0 s

/-- `BIT 0,A` (rule R261). -/
def execBit0A (s : State) : StepOutcome := bitOnReg 0 .a s

/-- `BIT 1,B` (rule R261). -/
def execBit1B (s : State) : StepOutcome := bitOnReg 1 .b s

/-- `BIT 1,C` (rule R261). -/
def execBit1C (s : State) : StepOutcome := bitOnReg 1 .c s

/-- `BIT 1,D` (rule R261). -/
def execBit1D (s : State) : StepOutcome := bitOnReg 1 .d s

/-- `BIT 1,E` (rule R261). -/
def execBit1E (s : State) : StepOutcome := bitOnReg 1 .e s

/-- `BIT 1,H` (rule R261). -/
def execBit1H (s : State) : StepOutcome := bitOnReg 1 .h s

/-- `BIT 1,L` (rule R261). -/
def execBit1L (s : State) : StepOutcome := bitOnReg 1 .l s

/-- `BIT 1,(HL)` (rule R262). -/
def execBit1IndHl (s : State) : StepOutcome := bitOnHl 1 s

/-- `BIT 1,A` (rule R261). -/
def execBit1A (s : State) : StepOutcome := bitOnReg 1 .a s

/-- `BIT 2,B` (rule R261). -/
def execBit2B (s : State) : StepOutcome := bitOnReg 2 .b s

/-- `BIT 2,C` (rule R261). -/
def execBit2C (s : State) : StepOutcome := bitOnReg 2 .c s

/-- `BIT 2,D` (rule R261). -/
def execBit2D (s : State) : StepOutcome := bitOnReg 2 .d s

/-- `BIT 2,E` (rule R261). -/
def execBit2E (s : State) : StepOutcome := bitOnReg 2 .e s

/-- `BIT 2,H` (rule R261). -/
def execBit2H (s : State) : StepOutcome := bitOnReg 2 .h s

/-- `BIT 2,L` (rule R261). -/
def execBit2L (s : State) : StepOutcome := bitOnReg 2 .l s

/-- `BIT 2,(HL)` (rule R262). -/
def execBit2IndHl (s : State) : StepOutcome := bitOnHl 2 s

/-- `BIT 2,A` (rule R261). -/
def execBit2A (s : State) : StepOutcome := bitOnReg 2 .a s

/-- `BIT 3,B` (rule R261). -/
def execBit3B (s : State) : StepOutcome := bitOnReg 3 .b s

/-- `BIT 3,C` (rule R261). -/
def execBit3C (s : State) : StepOutcome := bitOnReg 3 .c s

/-- `BIT 3,D` (rule R261). -/
def execBit3D (s : State) : StepOutcome := bitOnReg 3 .d s

/-- `BIT 3,E` (rule R261). -/
def execBit3E (s : State) : StepOutcome := bitOnReg 3 .e s

/-- `BIT 3,H` (rule R261). -/
def execBit3H (s : State) : StepOutcome := bitOnReg 3 .h s

/-- `BIT 3,L` (rule R261). -/
def execBit3L (s : State) : StepOutcome := bitOnReg 3 .l s

/-- `BIT 3,(HL)` (rule R262). -/
def execBit3IndHl (s : State) : StepOutcome := bitOnHl 3 s

/-- `BIT 3,A` (rule R261). -/
def execBit3A (s : State) : StepOutcome := bitOnReg 3 .a s

/-- `BIT 4,B` (rule R261). -/
def execBit4B (s : State) : StepOutcome := bitOnReg 4 .b s

/-- `BIT 4,C` (rule R261). -/
def execBit4C (s : State) : StepOutcome := bitOnReg 4 .c s

/-- `BIT 4,D` (rule R261). -/
def execBit4D (s : State) : StepOutcome := bitOnReg 4 .d s

/-- `BIT 4,E` (rule R261). -/
def execBit4E (s : State) : StepOutcome := bitOnReg 4 .e s

/-- `BIT 4,H` (rule R261). -/
def execBit4H (s : State) : StepOutcome := bitOnReg 4 .h s

/-- `BIT 4,L` (rule R261). -/
def execBit4L (s : State) : StepOutcome := bitOnReg 4 .l s

/-- `BIT 4,(HL)` (rule R262). -/
def execBit4IndHl (s : State) : StepOutcome := bitOnHl 4 s

/-- `BIT 4,A` (rule R261). -/
def execBit4A (s : State) : StepOutcome := bitOnReg 4 .a s

/-- `BIT 5,B` (rule R261). -/
def execBit5B (s : State) : StepOutcome := bitOnReg 5 .b s

/-- `BIT 5,C` (rule R261). -/
def execBit5C (s : State) : StepOutcome := bitOnReg 5 .c s

/-- `BIT 5,D` (rule R261). -/
def execBit5D (s : State) : StepOutcome := bitOnReg 5 .d s

/-- `BIT 5,E` (rule R261). -/
def execBit5E (s : State) : StepOutcome := bitOnReg 5 .e s

/-- `BIT 5,H` (rule R261). -/
def execBit5H (s : State) : StepOutcome := bitOnReg 5 .h s

/-- `BIT 5,L` (rule R261). -/
def execBit5L (s : State) : StepOutcome := bitOnReg 5 .l s

/-- `BIT 5,(HL)` (rule R262). -/
def execBit5IndHl (s : State) : StepOutcome := bitOnHl 5 s

/-- `BIT 5,A` (rule R261). -/
def execBit5A (s : State) : StepOutcome := bitOnReg 5 .a s

/-- `BIT 6,B` (rule R261). -/
def execBit6B (s : State) : StepOutcome := bitOnReg 6 .b s

/-- `BIT 6,C` (rule R261). -/
def execBit6C (s : State) : StepOutcome := bitOnReg 6 .c s

/-- `BIT 6,D` (rule R261). -/
def execBit6D (s : State) : StepOutcome := bitOnReg 6 .d s

/-- `BIT 6,E` (rule R261). -/
def execBit6E (s : State) : StepOutcome := bitOnReg 6 .e s

/-- `BIT 6,H` (rule R261). -/
def execBit6H (s : State) : StepOutcome := bitOnReg 6 .h s

/-- `BIT 6,L` (rule R261). -/
def execBit6L (s : State) : StepOutcome := bitOnReg 6 .l s

/-- `BIT 6,(HL)` (rule R262). -/
def execBit6IndHl (s : State) : StepOutcome := bitOnHl 6 s

/-- `BIT 6,A` (rule R261). -/
def execBit6A (s : State) : StepOutcome := bitOnReg 6 .a s

/-- `BIT 7,B` (rule R261). -/
def execBit7B (s : State) : StepOutcome := bitOnReg 7 .b s

/-- `BIT 7,C` (rule R261). -/
def execBit7C (s : State) : StepOutcome := bitOnReg 7 .c s

/-- `BIT 7,D` (rule R261). -/
def execBit7D (s : State) : StepOutcome := bitOnReg 7 .d s

/-- `BIT 7,E` (rule R261). -/
def execBit7E (s : State) : StepOutcome := bitOnReg 7 .e s

/-- `BIT 7,H` (rule R261). -/
def execBit7H (s : State) : StepOutcome := bitOnReg 7 .h s

/-- `BIT 7,L` (rule R261). -/
def execBit7L (s : State) : StepOutcome := bitOnReg 7 .l s

/-- `BIT 7,(HL)` (rule R262). -/
def execBit7IndHl (s : State) : StepOutcome := bitOnHl 7 s

/-- `BIT 7,A` (rule R261). -/
def execBit7A (s : State) : StepOutcome := bitOnReg 7 .a s

/-- `RES 0,B` (rule R263). -/
def execRes0B (s : State) : StepOutcome := resOnReg 0 .b s

/-- `RES 0,C` (rule R263). -/
def execRes0C (s : State) : StepOutcome := resOnReg 0 .c s

/-- `RES 0,D` (rule R263). -/
def execRes0D (s : State) : StepOutcome := resOnReg 0 .d s

/-- `RES 0,E` (rule R263). -/
def execRes0E (s : State) : StepOutcome := resOnReg 0 .e s

/-- `RES 0,H` (rule R263). -/
def execRes0H (s : State) : StepOutcome := resOnReg 0 .h s

/-- `RES 0,L` (rule R263). -/
def execRes0L (s : State) : StepOutcome := resOnReg 0 .l s

/-- `RES 0,(HL)` (rule R264). -/
def execRes0IndHl (s : State) : StepOutcome := resOnHl 0 s

/-- `RES 0,A` (rule R263). -/
def execRes0A (s : State) : StepOutcome := resOnReg 0 .a s

/-- `RES 1,B` (rule R263). -/
def execRes1B (s : State) : StepOutcome := resOnReg 1 .b s

/-- `RES 1,C` (rule R263). -/
def execRes1C (s : State) : StepOutcome := resOnReg 1 .c s

/-- `RES 1,D` (rule R263). -/
def execRes1D (s : State) : StepOutcome := resOnReg 1 .d s

/-- `RES 1,E` (rule R263). -/
def execRes1E (s : State) : StepOutcome := resOnReg 1 .e s

/-- `RES 1,H` (rule R263). -/
def execRes1H (s : State) : StepOutcome := resOnReg 1 .h s

/-- `RES 1,L` (rule R263). -/
def execRes1L (s : State) : StepOutcome := resOnReg 1 .l s

/-- `RES 1,(HL)` (rule R264). -/
def execRes1IndHl (s : State) : StepOutcome := resOnHl 1 s

/-- `RES 1,A` (rule R263). -/
def execRes1A (s : State) : StepOutcome := resOnReg 1 .a s

/-- `RES 2,B` (rule R263). -/
def execRes2B (s : State) : StepOutcome := resOnReg 2 .b s

/-- `RES 2,C` (rule R263). -/
def execRes2C (s : State) : StepOutcome := resOnReg 2 .c s

/-- `RES 2,D` (rule R263). -/
def execRes2D (s : State) : StepOutcome := resOnReg 2 .d s

/-- `RES 2,E` (rule R263). -/
def execRes2E (s : State) : StepOutcome := resOnReg 2 .e s

/-- `RES 2,H` (rule R263). -/
def execRes2H (s : State) : StepOutcome := resOnReg 2 .h s

/-- `RES 2,L` (rule R263). -/
def execRes2L (s : State) : StepOutcome := resOnReg 2 .l s

/-- `RES 2,(HL)` (rule R264). -/
def execRes2IndHl (s : State) : StepOutcome := resOnHl 2 s

/-- `RES 2,A` (rule R263). -/
def execRes2A (s : State) : StepOutcome := resOnReg 2 .a s

/-- `RES 3,B` (rule R263). -/
def execRes3B (s : State) : StepOutcome := resOnReg 3 .b s

/-- `RES 3,C` (rule R263). -/
def execRes3C (s : State) : StepOutcome := resOnReg 3 .c s

/-- `RES 3,D` (rule R263). -/
def execRes3D (s : State) : StepOutcome := resOnReg 3 .d s

/-- `RES 3,E` (rule R263). -/
def execRes3E (s : State) : StepOutcome := resOnReg 3 .e s

/-- `RES 3,H` (rule R263). -/
def execRes3H (s : State) : StepOutcome := resOnReg 3 .h s

/-- `RES 3,L` (rule R263). -/
def execRes3L (s : State) : StepOutcome := resOnReg 3 .l s

/-- `RES 3,(HL)` (rule R264). -/
def execRes3IndHl (s : State) : StepOutcome := resOnHl 3 s

/-- `RES 3,A` (rule R263). -/
def execRes3A (s : State) : StepOutcome := resOnReg 3 .a s

/-- `RES 4,B` (rule R263). -/
def execRes4B (s : State) : StepOutcome := resOnReg 4 .b s

/-- `RES 4,C` (rule R263). -/
def execRes4C (s : State) : StepOutcome := resOnReg 4 .c s

/-- `RES 4,D` (rule R263). -/
def execRes4D (s : State) : StepOutcome := resOnReg 4 .d s

/-- `RES 4,E` (rule R263). -/
def execRes4E (s : State) : StepOutcome := resOnReg 4 .e s

/-- `RES 4,H` (rule R263). -/
def execRes4H (s : State) : StepOutcome := resOnReg 4 .h s

/-- `RES 4,L` (rule R263). -/
def execRes4L (s : State) : StepOutcome := resOnReg 4 .l s

/-- `RES 4,(HL)` (rule R264). -/
def execRes4IndHl (s : State) : StepOutcome := resOnHl 4 s

/-- `RES 4,A` (rule R263). -/
def execRes4A (s : State) : StepOutcome := resOnReg 4 .a s

/-- `RES 5,B` (rule R263). -/
def execRes5B (s : State) : StepOutcome := resOnReg 5 .b s

/-- `RES 5,C` (rule R263). -/
def execRes5C (s : State) : StepOutcome := resOnReg 5 .c s

/-- `RES 5,D` (rule R263). -/
def execRes5D (s : State) : StepOutcome := resOnReg 5 .d s

/-- `RES 5,E` (rule R263). -/
def execRes5E (s : State) : StepOutcome := resOnReg 5 .e s

/-- `RES 5,H` (rule R263). -/
def execRes5H (s : State) : StepOutcome := resOnReg 5 .h s

/-- `RES 5,L` (rule R263). -/
def execRes5L (s : State) : StepOutcome := resOnReg 5 .l s

/-- `RES 5,(HL)` (rule R264). -/
def execRes5IndHl (s : State) : StepOutcome := resOnHl 5 s

/-- `RES 5,A` (rule R263). -/
def execRes5A (s : State) : StepOutcome := resOnReg 5 .a s

/-- `RES 6,B` (rule R263). -/
def execRes6B (s : State) : StepOutcome := resOnReg 6 .b s

/-- `RES 6,C` (rule R263). -/
def execRes6C (s : State) : StepOutcome := resOnReg 6 .c s

/-- `RES 6,D` (rule R263). -/
def execRes6D (s : State) : StepOutcome := resOnReg 6 .d s

/-- `RES 6,E` (rule R263). -/
def execRes6E (s : State) : StepOutcome := resOnReg 6 .e s

/-- `RES 6,H` (rule R263). -/
def execRes6H (s : State) : StepOutcome := resOnReg 6 .h s

/-- `RES 6,L` (rule R263). -/
def execRes6L (s : State) : StepOutcome := resOnReg 6 .l s

/-- `RES 6,(HL)` (rule R264). -/
def execRes6IndHl (s : State) : StepOutcome := resOnHl 6 s

/-- `RES 6,A` (rule R263). -/
def execRes6A (s : State) : StepOutcome := resOnReg 6 .a s

/-- `RES 7,B` (rule R263). -/
def execRes7B (s : State) : StepOutcome := resOnReg 7 .b s

/-- `RES 7,C` (rule R263). -/
def execRes7C (s : State) : StepOutcome := resOnReg 7 .c s

/-- `RES 7,D` (rule R263). -/
def execRes7D (s : State) : StepOutcome := resOnReg 7 .d s

/-- `RES 7,E` (rule R263). -/
def execRes7E (s : State) : StepOutcome := resOnReg 7 .e s

/-- `RES 7,H` (rule R263). -/
def execRes7H (s : State) : StepOutcome := resOnReg 7 .h s

/-- `RES 7,L` (rule R263). -/
def execRes7L (s : State) : StepOutcome := resOnReg 7 .l s

/-- `RES 7,(HL)` (rule R264). -/
def execRes7IndHl (s : State) : StepOutcome := resOnHl 7 s

/-- `RES 7,A` (rule R263). -/
def execRes7A (s : State) : StepOutcome := resOnReg 7 .a s

/-- `SET 0,B` (rule R265). -/
def execSet0B (s : State) : StepOutcome := setOnReg 0 .b s

/-- `SET 0,C` (rule R265). -/
def execSet0C (s : State) : StepOutcome := setOnReg 0 .c s

/-- `SET 0,D` (rule R265). -/
def execSet0D (s : State) : StepOutcome := setOnReg 0 .d s

/-- `SET 0,E` (rule R265). -/
def execSet0E (s : State) : StepOutcome := setOnReg 0 .e s

/-- `SET 0,H` (rule R265). -/
def execSet0H (s : State) : StepOutcome := setOnReg 0 .h s

/-- `SET 0,L` (rule R265). -/
def execSet0L (s : State) : StepOutcome := setOnReg 0 .l s

/-- `SET 0,(HL)` (rule R266). -/
def execSet0IndHl (s : State) : StepOutcome := setOnHl 0 s

/-- `SET 0,A` (rule R265). -/
def execSet0A (s : State) : StepOutcome := setOnReg 0 .a s

/-- `SET 1,B` (rule R265). -/
def execSet1B (s : State) : StepOutcome := setOnReg 1 .b s

/-- `SET 1,C` (rule R265). -/
def execSet1C (s : State) : StepOutcome := setOnReg 1 .c s

/-- `SET 1,D` (rule R265). -/
def execSet1D (s : State) : StepOutcome := setOnReg 1 .d s

/-- `SET 1,E` (rule R265). -/
def execSet1E (s : State) : StepOutcome := setOnReg 1 .e s

/-- `SET 1,H` (rule R265). -/
def execSet1H (s : State) : StepOutcome := setOnReg 1 .h s

/-- `SET 1,L` (rule R265). -/
def execSet1L (s : State) : StepOutcome := setOnReg 1 .l s

/-- `SET 1,(HL)` (rule R266). -/
def execSet1IndHl (s : State) : StepOutcome := setOnHl 1 s

/-- `SET 1,A` (rule R265). -/
def execSet1A (s : State) : StepOutcome := setOnReg 1 .a s

/-- `SET 2,B` (rule R265). -/
def execSet2B (s : State) : StepOutcome := setOnReg 2 .b s

/-- `SET 2,C` (rule R265). -/
def execSet2C (s : State) : StepOutcome := setOnReg 2 .c s

/-- `SET 2,D` (rule R265). -/
def execSet2D (s : State) : StepOutcome := setOnReg 2 .d s

/-- `SET 2,E` (rule R265). -/
def execSet2E (s : State) : StepOutcome := setOnReg 2 .e s

/-- `SET 2,H` (rule R265). -/
def execSet2H (s : State) : StepOutcome := setOnReg 2 .h s

/-- `SET 2,L` (rule R265). -/
def execSet2L (s : State) : StepOutcome := setOnReg 2 .l s

/-- `SET 2,(HL)` (rule R266). -/
def execSet2IndHl (s : State) : StepOutcome := setOnHl 2 s

/-- `SET 2,A` (rule R265). -/
def execSet2A (s : State) : StepOutcome := setOnReg 2 .a s

/-- `SET 3,B` (rule R265). -/
def execSet3B (s : State) : StepOutcome := setOnReg 3 .b s

/-- `SET 3,C` (rule R265). -/
def execSet3C (s : State) : StepOutcome := setOnReg 3 .c s

/-- `SET 3,D` (rule R265). -/
def execSet3D (s : State) : StepOutcome := setOnReg 3 .d s

/-- `SET 3,E` (rule R265). -/
def execSet3E (s : State) : StepOutcome := setOnReg 3 .e s

/-- `SET 3,H` (rule R265). -/
def execSet3H (s : State) : StepOutcome := setOnReg 3 .h s

/-- `SET 3,L` (rule R265). -/
def execSet3L (s : State) : StepOutcome := setOnReg 3 .l s

/-- `SET 3,(HL)` (rule R266). -/
def execSet3IndHl (s : State) : StepOutcome := setOnHl 3 s

/-- `SET 3,A` (rule R265). -/
def execSet3A (s : State) : StepOutcome := setOnReg 3 .a s

/-- `SET 4,B` (rule R265). -/
def execSet4B (s : State) : StepOutcome := setOnReg 4 .b s

/-- `SET 4,C` (rule R265). -/
def execSet4C (s : State) : StepOutcome := setOnReg 4 .c s

/-- `SET 4,D` (rule R265). -/
def execSet4D (s : State) : StepOutcome := setOnReg 4 .d s

/-- `SET 4,E` (rule R265). -/
def execSet4E (s : State) : StepOutcome := setOnReg 4 .e s

/-- `SET 4,H` (rule R265). -/
def execSet4H (s : State) : StepOutcome := setOnReg 4 .h s

/-- `SET 4,L` (rule R265). -/
def execSet4L (s : State) : StepOutcome := setOnReg 4 .l s

/-- `SET 4,(HL)` (rule R266). -/
def execSet4IndHl (s : State) : StepOutcome := setOnHl 4 s

/-- `SET 4,A` (rule R265). -/
def execSet4A (s : State) : StepOutcome := setOnReg 4 .a s

/-- `SET 5,B` (rule R265). -/
def execSet5B (s : State) : StepOutcome := setOnReg 5 .b s

/-- `SET 5,C` (rule R265). -/
def execSet5C (s : State) : StepOutcome := setOnReg 5 .c s

/-- `SET 5,D` (rule R265). -/
def execSet5D (s : State) : StepOutcome := setOnReg 5 .d s

/-- `SET 5,E` (rule R265). -/
def execSet5E (s : State) : StepOutcome := setOnReg 5 .e s

/-- `SET 5,H` (rule R265). -/
def execSet5H (s : State) : StepOutcome := setOnReg 5 .h s

/-- `SET 5,L` (rule R265). -/
def execSet5L (s : State) : StepOutcome := setOnReg 5 .l s

/-- `SET 5,(HL)` (rule R266). -/
def execSet5IndHl (s : State) : StepOutcome := setOnHl 5 s

/-- `SET 5,A` (rule R265). -/
def execSet5A (s : State) : StepOutcome := setOnReg 5 .a s

/-- `SET 6,B` (rule R265). -/
def execSet6B (s : State) : StepOutcome := setOnReg 6 .b s

/-- `SET 6,C` (rule R265). -/
def execSet6C (s : State) : StepOutcome := setOnReg 6 .c s

/-- `SET 6,D` (rule R265). -/
def execSet6D (s : State) : StepOutcome := setOnReg 6 .d s

/-- `SET 6,E` (rule R265). -/
def execSet6E (s : State) : StepOutcome := setOnReg 6 .e s

/-- `SET 6,H` (rule R265). -/
def execSet6H (s : State) : StepOutcome := setOnReg 6 .h s

/-- `SET 6,L` (rule R265). -/
def execSet6L (s : State) : StepOutcome := setOnReg 6 .l s

/-- `SET 6,(HL)` (rule R266). -/
def execSet6IndHl (s : State) : StepOutcome := setOnHl 6 s

/-- `SET 6,A` (rule R265). -/
def execSet6A (s : State) : StepOutcome := setOnReg 6 .a s

/-- `SET 7,B` (rule R265). -/
def execSet7B (s : State) : StepOutcome := setOnReg 7 .b s

/-- `SET 7,C` (rule R265). -/
def execSet7C (s : State) : StepOutcome := setOnReg 7 .c s

/-- `SET 7,D` (rule R265). -/
def execSet7D (s : State) : StepOutcome := setOnReg 7 .d s

/-- `SET 7,E` (rule R265). -/
def execSet7E (s : State) : StepOutcome := setOnReg 7 .e s

/-- `SET 7,H` (rule R265). -/
def execSet7H (s : State) : StepOutcome := setOnReg 7 .h s

/-- `SET 7,L` (rule R265). -/
def execSet7L (s : State) : StepOutcome := setOnReg 7 .l s

/-- `SET 7,(HL)` (rule R266). -/
def execSet7IndHl (s : State) : StepOutcome := setOnHl 7 s

/-- `SET 7,A` (rule R265). -/
def execSet7A (s : State) : StepOutcome := setOnReg 7 .a s

end Sys2Proof.Machine
end

