-- ==== Sys2Proof/Machine/Load16.lean ====
section
/-! DEFINITION. The meanings: 16-bit loads and the stack instructions (41_load16_stack.md). An instruction starts with `pc` at its
first byte; `State.advance` moves `pc` past its bytes before the operation runs (rule R113). -/

namespace Sys2Proof.Machine

/-! ### Shared operations -/

/-- `LD rp,nn` (rule R170). -/
def loadPairImm (p : Pair) (nn : Word) (s : State) : StepOutcome := ((s.advance 3).putPair p nn).done 12

/-- `PUSH rp2` (rule R174). -/
def pushFrom (p : StackPair) (s : State) : StepOutcome :=
  let s1 := s.advance 1
  (s1.push16 (s1.stackPair p)).done 16

/-- `POP rp2` (rule R175). -/
def popInto (p : StackPair) (s : State) : StepOutcome :=
  let s1 := s.advance 1
  (s1.dropTop.putStackPair p s1.stackTop).done 12

/-! ### One meaning for each instruction -/

/-- `LD BC,nn` (rule R170). -/
def execLdBcImm (nn : Word) (s : State) : StepOutcome := loadPairImm .bc nn s

/-- `LD (nn),SP` (rule R171). -/
def execLdIndAbsSp (nn : Word) (s : State) : StepOutcome :=
  let s1 := s.advance 3
  ((s1.busWrite nn (loByte s1.cpu.sp)).busWrite (nn + 1) (hiByte s1.cpu.sp)).done 20

/-- `LD DE,nn` (rule R170). -/
def execLdDeImm (nn : Word) (s : State) : StepOutcome := loadPairImm .de nn s

/-- `LD HL,nn` (rule R170). -/
def execLdHlImm (nn : Word) (s : State) : StepOutcome := loadPairImm .hl nn s

/-- `LD SP,nn` (rule R170). -/
def execLdSpImm (nn : Word) (s : State) : StepOutcome := loadPairImm .sp nn s

/-- `POP BC` (rule R175). -/
def execPopBc (s : State) : StepOutcome := popInto .bc s

/-- `PUSH BC` (rule R174). -/
def execPushBc (s : State) : StepOutcome := pushFrom .bc s

/-- `POP DE` (rule R175). -/
def execPopDe (s : State) : StepOutcome := popInto .de s

/-- `PUSH DE` (rule R174). -/
def execPushDe (s : State) : StepOutcome := pushFrom .de s

/-- `POP HL` (rule R175). -/
def execPopHl (s : State) : StepOutcome := popInto .hl s

/-- `PUSH HL` (rule R174). -/
def execPushHl (s : State) : StepOutcome := pushFrom .hl s

/-- `POP AF` (rule R175). -/
def execPopAf (s : State) : StepOutcome := popInto .af s

/-- `PUSH AF` (rule R174). -/
def execPushAf (s : State) : StepOutcome := pushFrom .af s

/-- `LD HL,SP+e` (rule R173). -/
def execLdHlSpRel (e : Byte) (s : State) : StepOutcome :=
  let s1 := s.advance 2
  ((s1.putHl (s1.cpu.sp + sext16 e)).putF (spRelFlags s1.cpu.sp e)).done 12

/-- `LD SP,HL` (rule R172). -/
def execLdSpHl (s : State) : StepOutcome :=
  let s1 := s.advance 1
  (s1.putSp s1.hl).done 8

end Sys2Proof.Machine
end

