-- ==== Sys2Proof/Machine/Load8.lean ====
section
/-! DEFINITION. The meanings: 8-bit loads (40_load8.md). Shared operations first, then one meaning for each instruction. An instruction starts with `pc` at its
first byte; `State.advance` moves `pc` past its bytes before the operation runs (rule R113). -/

namespace Sys2Proof.Machine

/-! ### Shared operations -/

/-- `LD r,r'` (rule R140). -/
def loadRegReg (dst src : Reg8) (s : State) : StepOutcome :=
  let s1 := s.advance 1
  (s1.putReg dst (s1.reg src)).done 4

/-- `LD r,n` (rule R141). -/
def loadRegImm (dst : Reg8) (n : Byte) (s : State) : StepOutcome := ((s.advance 2).putReg dst n).done 8

/-- `LD r,(HL)` (rule R142). -/
def loadRegHl (dst : Reg8) (s : State) : StepOutcome :=
  let s1 := s.advance 1
  (s1.putReg dst s1.atHl).done 8

/-- `LD (HL),r` (rule R143). -/
def storeHlReg (src : Reg8) (s : State) : StepOutcome :=
  let s1 := s.advance 1
  (s1.storeHl (s1.reg src)).done 8

/-- A load of A from an address, the instruction already fetched (rules R145, R146, R149, R151, R153). -/
def loadA (a : Word) (ticks : Nat) (s : State) : StepOutcome := (s.putReg .a (s.busRead a)).done ticks

/-- A store of A to an address, the instruction already fetched (rules R147, R148, R150, R152, R154). -/
def storeA (a : Word) (ticks : Nat) (s : State) : StepOutcome := (s.busWrite a s.cpu.a).done ticks

/-! ### One meaning for each instruction -/

/-- `LD (BC),A` (rule R147). -/
def execLdIndBcA (s : State) : StepOutcome :=
  let s1 := s.advance 1
  storeA s1.bc 8 s1

/-- `LD B,n` (rule R141). -/
def execLdBImm (n : Byte) (s : State) : StepOutcome := loadRegImm .b n s

/-- `LD A,(BC)` (rule R145). -/
def execLdAIndBc (s : State) : StepOutcome :=
  let s1 := s.advance 1
  loadA s1.bc 8 s1

/-- `LD C,n` (rule R141). -/
def execLdCImm (n : Byte) (s : State) : StepOutcome := loadRegImm .c n s

/-- `LD (DE),A` (rule R148). -/
def execLdIndDeA (s : State) : StepOutcome :=
  let s1 := s.advance 1
  storeA s1.de 8 s1

/-- `LD D,n` (rule R141). -/
def execLdDImm (n : Byte) (s : State) : StepOutcome := loadRegImm .d n s

/-- `LD A,(DE)` (rule R146). -/
def execLdAIndDe (s : State) : StepOutcome :=
  let s1 := s.advance 1
  loadA s1.de 8 s1

/-- `LD E,n` (rule R141). -/
def execLdEImm (n : Byte) (s : State) : StepOutcome := loadRegImm .e n s

/-- `LD (HL+),A` (rule R157). -/
def execLdIndHlIncA (s : State) : StepOutcome :=
  let s1 := s.advance 1
  (s1.storeHl s1.cpu.a).bumpHl.done 8

/-- `LD H,n` (rule R141). -/
def execLdHImm (n : Byte) (s : State) : StepOutcome := loadRegImm .h n s

/-- `LD A,(HL+)` (rule R155). -/
def execLdAIndHlInc (s : State) : StepOutcome :=
  let s1 := s.advance 1
  (s1.putReg .a s1.atHl).bumpHl.done 8

/-- `LD L,n` (rule R141). -/
def execLdLImm (n : Byte) (s : State) : StepOutcome := loadRegImm .l n s

/-- `LD (HL-),A` (rule R158). -/
def execLdIndHlDecA (s : State) : StepOutcome :=
  let s1 := s.advance 1
  (s1.storeHl s1.cpu.a).dropHl.done 8

/-- `LD (HL),n` (rule R144). -/
def execLdIndHlImm (n : Byte) (s : State) : StepOutcome :=
  let s1 := s.advance 2
  (s1.storeHl n).done 12

/-- `LD A,(HL-)` (rule R156). -/
def execLdAIndHlDec (s : State) : StepOutcome :=
  let s1 := s.advance 1
  (s1.putReg .a s1.atHl).dropHl.done 8

/-- `LD A,n` (rule R141). -/
def execLdAImm (n : Byte) (s : State) : StepOutcome := loadRegImm .a n s

/-- `LD B,B` (rule R140). -/
def execLdBB (s : State) : StepOutcome := loadRegReg .b .b s

/-- `LD B,C` (rule R140). -/
def execLdBC (s : State) : StepOutcome := loadRegReg .b .c s

/-- `LD B,D` (rule R140). -/
def execLdBD (s : State) : StepOutcome := loadRegReg .b .d s

/-- `LD B,E` (rule R140). -/
def execLdBE (s : State) : StepOutcome := loadRegReg .b .e s

/-- `LD B,H` (rule R140). -/
def execLdBH (s : State) : StepOutcome := loadRegReg .b .h s

/-- `LD B,L` (rule R140). -/
def execLdBL (s : State) : StepOutcome := loadRegReg .b .l s

/-- `LD B,(HL)` (rule R142). -/
def execLdBIndHl (s : State) : StepOutcome := loadRegHl .b s

/-- `LD B,A` (rule R140). -/
def execLdBA (s : State) : StepOutcome := loadRegReg .b .a s

/-- `LD C,B` (rule R140). -/
def execLdCB (s : State) : StepOutcome := loadRegReg .c .b s

/-- `LD C,C` (rule R140). -/
def execLdCC (s : State) : StepOutcome := loadRegReg .c .c s

/-- `LD C,D` (rule R140). -/
def execLdCD (s : State) : StepOutcome := loadRegReg .c .d s

/-- `LD C,E` (rule R140). -/
def execLdCE (s : State) : StepOutcome := loadRegReg .c .e s

/-- `LD C,H` (rule R140). -/
def execLdCH (s : State) : StepOutcome := loadRegReg .c .h s

/-- `LD C,L` (rule R140). -/
def execLdCL (s : State) : StepOutcome := loadRegReg .c .l s

/-- `LD C,(HL)` (rule R142). -/
def execLdCIndHl (s : State) : StepOutcome := loadRegHl .c s

/-- `LD C,A` (rule R140). -/
def execLdCA (s : State) : StepOutcome := loadRegReg .c .a s

/-- `LD D,B` (rule R140). -/
def execLdDB (s : State) : StepOutcome := loadRegReg .d .b s

/-- `LD D,C` (rule R140). -/
def execLdDC (s : State) : StepOutcome := loadRegReg .d .c s

/-- `LD D,D` (rule R140). -/
def execLdDD (s : State) : StepOutcome := loadRegReg .d .d s

/-- `LD D,E` (rule R140). -/
def execLdDE (s : State) : StepOutcome := loadRegReg .d .e s

/-- `LD D,H` (rule R140). -/
def execLdDH (s : State) : StepOutcome := loadRegReg .d .h s

/-- `LD D,L` (rule R140). -/
def execLdDL (s : State) : StepOutcome := loadRegReg .d .l s

/-- `LD D,(HL)` (rule R142). -/
def execLdDIndHl (s : State) : StepOutcome := loadRegHl .d s

/-- `LD D,A` (rule R140). -/
def execLdDA (s : State) : StepOutcome := loadRegReg .d .a s

/-- `LD E,B` (rule R140). -/
def execLdEB (s : State) : StepOutcome := loadRegReg .e .b s

/-- `LD E,C` (rule R140). -/
def execLdEC (s : State) : StepOutcome := loadRegReg .e .c s

/-- `LD E,D` (rule R140). -/
def execLdED (s : State) : StepOutcome := loadRegReg .e .d s

/-- `LD E,E` (rule R140). -/
def execLdEE (s : State) : StepOutcome := loadRegReg .e .e s

/-- `LD E,H` (rule R140). -/
def execLdEH (s : State) : StepOutcome := loadRegReg .e .h s

/-- `LD E,L` (rule R140). -/
def execLdEL (s : State) : StepOutcome := loadRegReg .e .l s

/-- `LD E,(HL)` (rule R142). -/
def execLdEIndHl (s : State) : StepOutcome := loadRegHl .e s

/-- `LD E,A` (rule R140). -/
def execLdEA (s : State) : StepOutcome := loadRegReg .e .a s

/-- `LD H,B` (rule R140). -/
def execLdHB (s : State) : StepOutcome := loadRegReg .h .b s

/-- `LD H,C` (rule R140). -/
def execLdHC (s : State) : StepOutcome := loadRegReg .h .c s

/-- `LD H,D` (rule R140). -/
def execLdHD (s : State) : StepOutcome := loadRegReg .h .d s

/-- `LD H,E` (rule R140). -/
def execLdHE (s : State) : StepOutcome := loadRegReg .h .e s

/-- `LD H,H` (rule R140). -/
def execLdHH (s : State) : StepOutcome := loadRegReg .h .h s

/-- `LD H,L` (rule R140). -/
def execLdHL (s : State) : StepOutcome := loadRegReg .h .l s

/-- `LD H,(HL)` (rule R142). -/
def execLdHIndHl (s : State) : StepOutcome := loadRegHl .h s

/-- `LD H,A` (rule R140). -/
def execLdHA (s : State) : StepOutcome := loadRegReg .h .a s

/-- `LD L,B` (rule R140). -/
def execLdLB (s : State) : StepOutcome := loadRegReg .l .b s

/-- `LD L,C` (rule R140). -/
def execLdLC (s : State) : StepOutcome := loadRegReg .l .c s

/-- `LD L,D` (rule R140). -/
def execLdLD (s : State) : StepOutcome := loadRegReg .l .d s

/-- `LD L,E` (rule R140). -/
def execLdLE (s : State) : StepOutcome := loadRegReg .l .e s

/-- `LD L,H` (rule R140). -/
def execLdLH (s : State) : StepOutcome := loadRegReg .l .h s

/-- `LD L,L` (rule R140). -/
def execLdLL (s : State) : StepOutcome := loadRegReg .l .l s

/-- `LD L,(HL)` (rule R142). -/
def execLdLIndHl (s : State) : StepOutcome := loadRegHl .l s

/-- `LD L,A` (rule R140). -/
def execLdLA (s : State) : StepOutcome := loadRegReg .l .a s

/-- `LD (HL),B` (rule R143). -/
def execLdIndHlB (s : State) : StepOutcome := storeHlReg .b s

/-- `LD (HL),C` (rule R143). -/
def execLdIndHlC (s : State) : StepOutcome := storeHlReg .c s

/-- `LD (HL),D` (rule R143). -/
def execLdIndHlD (s : State) : StepOutcome := storeHlReg .d s

/-- `LD (HL),E` (rule R143). -/
def execLdIndHlE (s : State) : StepOutcome := storeHlReg .e s

/-- `LD (HL),H` (rule R143). -/
def execLdIndHlH (s : State) : StepOutcome := storeHlReg .h s

/-- `LD (HL),L` (rule R143). -/
def execLdIndHlL (s : State) : StepOutcome := storeHlReg .l s

/-- `LD (HL),A` (rule R143). -/
def execLdIndHlA (s : State) : StepOutcome := storeHlReg .a s

/-- `LD A,B` (rule R140). -/
def execLdAB (s : State) : StepOutcome := loadRegReg .a .b s

/-- `LD A,C` (rule R140). -/
def execLdAC (s : State) : StepOutcome := loadRegReg .a .c s

/-- `LD A,D` (rule R140). -/
def execLdAD (s : State) : StepOutcome := loadRegReg .a .d s

/-- `LD A,E` (rule R140). -/
def execLdAE (s : State) : StepOutcome := loadRegReg .a .e s

/-- `LD A,H` (rule R140). -/
def execLdAH (s : State) : StepOutcome := loadRegReg .a .h s

/-- `LD A,L` (rule R140). -/
def execLdAL (s : State) : StepOutcome := loadRegReg .a .l s

/-- `LD A,(HL)` (rule R142). -/
def execLdAIndHl (s : State) : StepOutcome := loadRegHl .a s

/-- `LD A,A` (rule R140). -/
def execLdAA (s : State) : StepOutcome := loadRegReg .a .a s

/-- `LDH (n),A` (rule R154). -/
def execLdhIndImmA (n : Byte) (s : State) : StepOutcome := storeA (highPage n) 12 (s.advance 2)

/-- `LDH (C),A` (rule R152). -/
def execLdhIndCA (s : State) : StepOutcome :=
  let s1 := s.advance 1
  storeA s1.highC 8 s1

/-- `LD (nn),A` (rule R150). -/
def execLdIndAbsA (nn : Word) (s : State) : StepOutcome := storeA nn 16 (s.advance 3)

/-- `LDH A,(n)` (rule R153). -/
def execLdhAIndImm (n : Byte) (s : State) : StepOutcome := loadA (highPage n) 12 (s.advance 2)

/-- `LDH A,(C)` (rule R151). -/
def execLdhAIndC (s : State) : StepOutcome :=
  let s1 := s.advance 1
  loadA s1.highC 8 s1

/-- `LD A,(nn)` (rule R149). -/
def execLdAIndAbs (nn : Word) (s : State) : StepOutcome := loadA nn 16 (s.advance 3)

end Sys2Proof.Machine
end

