-- ==== Sys2Proof/Machine/Rotate.lean ====
section
/-! DEFINITION. The meanings: The rotates of A in the primary table (rules R240 to R243). An instruction starts with `pc` at its
first byte; `State.advance` moves `pc` past its bytes before the operation runs (rule R113). -/

namespace Sys2Proof.Machine

/-! ### Shared operations -/

/-- A rotate of A: one byte, 4 ticks, Zero cleared (rules R240 to R243). -/
def rotateA (k : RotOp) (s : State) : StepOutcome :=
  let s1 := s.advance 1
  let r := rotResult k s1.cpu.a (carryOf s1.cpu.f)
  ((s1.putReg .a r.1).putF (rotAFlags r)).done 4

/-! ### One meaning for each instruction -/

/-- `RLCA` (rule R240). -/
def execRlca (s : State) : StepOutcome := rotateA .rlc s

/-- `RRCA` (rule R241). -/
def execRrca (s : State) : StepOutcome := rotateA .rrc s

/-- `RLA` (rule R242). -/
def execRla (s : State) : StepOutcome := rotateA .rl s

/-- `RRA` (rule R243). -/
def execRra (s : State) : StepOutcome := rotateA .rr s

end Sys2Proof.Machine
end

