-- ==== Sys2Proof/Machine/System.lean ====
section
/-! DEFINITION. The meanings: CPU control and the illegal opcodes (46_cpu_control.md). An instruction starts with `pc` at its
first byte; `State.advance` moves `pc` past its bytes before the operation runs (rule R113). -/

namespace Sys2Proof.Machine

/-! ### Shared operations -/

/-- An illegal opcode: what it does is the policy's choice (rule R316). No operand byte is consumed. -/
def illegalOpcode (op : Byte) (s : State) : StepOutcome :=
  match s.policy with
  | .fatal => .fault (.decodeError op s.cpu.pc)
  | .nop => (s.advance 1).done 4

/-! ### One meaning for each instruction -/

/-- `NOP` (rule R310). -/
def execNop (s : State) : StepOutcome := (s.advance 1).done 4

/-- `STOP` (rule R313). -/
def execStop (_n : Byte) (s : State) : StepOutcome := .fault (.stop s.cpu.pc)

/-- `HALT` (rule R311). -/
def execHalt (s : State) : StepOutcome :=
  let s1 := s.advance 1
  ({ s1 with cpu := { s1.cpu with halted := true } } : State).done 4

/-- `ILLEGAL_D3` (rule R316). -/
def execIllegalD3 (s : State) : StepOutcome := illegalOpcode 0xD3 s

/-- `ILLEGAL_DB` (rule R316). -/
def execIllegalDB (s : State) : StepOutcome := illegalOpcode 0xDB s

/-- `ILLEGAL_DD` (rule R316). -/
def execIllegalDD (s : State) : StepOutcome := illegalOpcode 0xDD s

/-- `ILLEGAL_E3` (rule R316). -/
def execIllegalE3 (s : State) : StepOutcome := illegalOpcode 0xE3 s

/-- `ILLEGAL_E4` (rule R316). -/
def execIllegalE4 (s : State) : StepOutcome := illegalOpcode 0xE4 s

/-- `ILLEGAL_EB` (rule R316). -/
def execIllegalEB (s : State) : StepOutcome := illegalOpcode 0xEB s

/-- `ILLEGAL_EC` (rule R316). -/
def execIllegalEC (s : State) : StepOutcome := illegalOpcode 0xEC s

/-- `ILLEGAL_ED` (rule R316). -/
def execIllegalED (s : State) : StepOutcome := illegalOpcode 0xED s

/-- `DI` (rule R314). -/
def execDi (s : State) : StepOutcome :=
  let s1 := s.advance 1
  ({ s1 with cpu := { s1.cpu with ime := false } } : State).done 4

/-- `ILLEGAL_F4` (rule R316). -/
def execIllegalF4 (s : State) : StepOutcome := illegalOpcode 0xF4 s

/-- `EI` (rule R315). -/
def execEi (s : State) : StepOutcome :=
  let s1 := s.advance 1
  ({ s1 with cpu := { s1.cpu with imePending := true } } : State).done 4

/-- `ILLEGAL_FC` (rule R316). -/
def execIllegalFC (s : State) : StepOutcome := illegalOpcode 0xFC s

/-- `ILLEGAL_FD` (rule R316). -/
def execIllegalFD (s : State) : StepOutcome := illegalOpcode 0xFD s

end Sys2Proof.Machine
end

