-- ==== Sys2Proof/Machine/Cycle.lean ====
section
/-! DEFINITION. What happens between instructions: fetch, the interrupt poll, the halted state, the CPU step, the
machine step and the place where the next instruction's bytes are stored (60_exceptions.md, rule R113). -/

namespace Sys2Proof.Machine

/-- The instruction at `pc`. Its bytes are read through the bus, and a read has no side effect, so reading three
bytes and using those the instruction has is the fetch of rule R113 (rules R79, R85). -/
def State.fetched (s : State) : Instr :=
  decodeBytes (s.busRead s.cpu.pc) (s.busRead (s.cpu.pc + 1)) (s.busRead (s.cpu.pc + 2))

/-- The wake of the poll: a source both requested and enabled ends the halted state, whatever `ime` is (rules
R345, R347). -/
def State.wake (s : State) : State :=
  if s.irq.isPending then { s with cpu := { s.cpu with halted := false } } else s

/-- The source the poll services: the highest priority one, if the latch is set (rules R341, R342). -/
def State.serviceable (s : State) : Option IrqSource :=
  if s.cpu.ime then s.irq.highestPriorityPending else none

/-- The EI delay: after the poll the pending bit moves into the latch (rules R315, R345). -/
def State.commitIme (s : State) : State :=
  if s.cpu.imePending then { s with cpu := { s.cpu with ime := true, imePending := false } } else s

/-- `Step()`: the same outcome again while `dead`, or one interrupt serviced, or an idle machine cycle while
halted, or one instruction (rule R345). -/
def State.cpuStep (s : State) : StepOutcome :=
  match s.cpu.dead with
  | some f => .fault f
  | none =>
    let s1 := s.wake
    match s1.serviceable with
    | some k => .next (s1.service k)
    | none => if s1.cpu.halted then s1.done 4 else exec s1.fetched s1.commitIme

/-- The timer and then the PPU advance by the ticks the CPU step returned (rule R356). -/
def State.advanceDevices (s : State) : State := (s.timerAdvance s.cycles).ppuAdvance s.cycles

/-- `MachineStep()`: on an outcome the devices are not advanced (rule R356). -/
def State.machineStep (s : State) : StepOutcome :=
  match s.cpuStep with
  | .next s1 => .next s1.advanceDevices
  | .fault f => .fault f
  | .refused r => .refused r

/-- The state a step that ended in `f` leaves: `dead` remembers the outcome, `pc` is where it was (rules R29,
R331, R345). -/
def State.afterOutcome (s : State) (f : Fault) : State :=
  match s.cpu.dead with
  | some _ => s
  | none => { s.wake with cpu := { s.wake.cpu with dead := some f } }

/-! ### Where the next instruction is stored -/

/-- A read of this place returns a stored byte of an array. -/
def State.backed (s : State) (p : Place) : Bool :=
  match p with
  | .rom _ | .extRam _ | .wram _ | .hram _ => true
  | .vram _ => !s.ppu.vramLocked
  | .oam _ => !s.ppu.oamLocked
  | .io _ | .ie | .unclaimed => false

/-- Stores a byte behind the bus: into the image for the ROM range. Only `State.withFetchWord` uses it, which
stands for the load of a program. -/
def State.poke (s : State) (a : Word) (v : Byte) : State :=
  match s.place a with
  | .rom i => { s with cart := { s.cart with rom := s.cart.rom.write i v } }
  | .vram i => { s with ppu := { s.ppu with vram := s.ppu.vram.write i v } }
  | .extRam i => { s with cart := { s.cart with extRam := s.cart.extRam.write i v } }
  | .wram i => { s with wram := s.wram.write i v }
  | .oam i => { s with ppu := { s.ppu with oam := s.ppu.oam.write i v } }
  | .hram i => { s with hram := s.hram.write i v }
  | .io _ | .ie | .unclaimed => s

/-- The three bytes at `pc` are bytes of arrays. -/
def State.fetchBacked (s : State) : Bool :=
  s.backed (s.place s.cpu.pc) && s.backed (s.place (s.cpu.pc + 1)) && s.backed (s.place (s.cpu.pc + 2))

/-- A state whose next step fetches: not dead, not halted, no interrupt to service, and `pc` at bytes of an
array (work RAM where it is not). -/
def State.readyToFetch (s : State) : State :=
  let s1 : State :=
    { s with
      cpu := { s.cpu with dead := none, halted := false, ime := s.cpu.ime && !s.irq.isPending } }
  if s1.fetchBacked then s1 else s1.putPc 0xC000

/-- The bytes of an instruction stored at `pc` and after. -/
def State.storeAtPc (s : State) (bs : List Byte) : State :=
  ((s.poke s.cpu.pc (bs.getD 0 0)).poke (s.cpu.pc + 1) (bs.getD 1 0)).poke (s.cpu.pc + 2) (bs.getD 2 0)

end Sys2Proof.Machine
end

