-- ==== Sys2Proof/Machine/Step.lean ====
section
/-! DEFINITION. One step of the machine, and the load of one instruction where that step fetches. -/

namespace Sys2Proof.Machine

/-- One step: the machine step of rule R356. -/
def step (s : State) : Host.Outcome State Fault Refusal := s.machineStep

/-- `s` with one instruction, given as a word of the opcode table, stored where the next step fetches (log
entry 6). -/
def State.withFetchWord (s : State) (nbits w : Nat) : State := s.readyToFetch.storeAtPc (tableWordBytes nbits w)

end Sys2Proof.Machine
end

