-- ==== Sys2Proof/Machine/HostOps.lean ====
section
/-! DEFINITION. What the host can do between machine steps: load an image, run one frame, take the frame, set the
buttons, and read or replace the external RAM (rules R6, R357 to R359, R432, R451, R466, R482, R500). -/

namespace Sys2Proof.Machine

/-- Why an image is refused at load: `MalformedCartridge(reason)` (rule R451). -/
inductive MalformedCartridge where
  | missingHeader
  | zeroBanks
  | unsupportedType
  | badRamSizeCode
deriving DecidableEq, Repr

/-- The bytes of RAM at launch, an argument of the launch state (rules R34, R503). Bytes past the end of an array
are ignored, bytes that are not given read as `Config.unlistedByte`. -/
structure LaunchRam where
  vram : List Byte
  oam : List Byte
  wram : List Byte
  hram : List Byte
  extRam : List Byte
deriving DecidableEq, Repr

/-- No byte given. -/
def LaunchRam.none : LaunchRam := { vram := [], oam := [], wram := [], hram := [], extRam := [] }

/-- The type byte of the header: the controller, external RAM, battery (rules R451, R452). -/
def cartTypeOfByte (v : Byte) : Option (CartType × Bool × Bool) :=
  match v.toNat with
  | 0x00 => some (.none, false, false)
  | 0x01 => some (.mbc1, false, false)
  | 0x02 => some (.mbc1, true, false)
  | 0x03 => some (.mbc1, true, true)
  | _ => Option.none

/-- The number of bytes of external RAM that the size code of the header names (rule R451). -/
def ramLenOfCode (code : Byte) : Option Nat :=
  match code.toNat with
  | 0 => some 0
  | 1 => some 2048
  | 2 => some 8192
  | 3 => some 32768
  | 4 => some 131072
  | 5 => some 65536
  | _ => Option.none

/-- The cartridge of an image (rules R451, R453), its RAM filled with the launch bytes. -/
def Cart.ofImage (rom : List Byte) (ram : List Byte) : Except MalformedCartridge Cart :=
  if rom.length < 0x0150 then .error .missingHeader
  else if rom.length / Config.romBankSize = 0 then .error .zeroBanks
  else
    match cartTypeOfByte (rom.getD 0x0147 0) with
    | Option.none => .error .unsupportedType
    | some (cartType, hasRam, hasBattery) =>
      match ramLenOfCode (rom.getD 0x0149 0) with
      | Option.none => .error .badRamSizeCode
      | some len =>
        let ramLen := if hasRam then len else 0
        .ok
          { rom := Memory.ofBytes rom, romLen := rom.length, cartType := cartType, hasRam := hasRam,
            hasBattery := hasBattery, romBanks := rom.length / Config.romBankSize, ramLen := ramLen,
            extRam := Memory.ofBytes (ram.take ramLen), ramEnable := false, bank1 := 1, bank2 := 0,
            bankMode := false }

/-- `Load(rom)`: the reset state with this image, these launch bytes and this policy, or the reason it fails
(rules R451, R500). -/
def load (rom : List Byte) (ram : LaunchRam) (policy : IllegalOpcodePolicy) : Except MalformedCartridge State :=
  match Cart.ofImage rom ram.extRam with
  | .error e => .error e
  | .ok cart =>
    .ok
      { State.reset with
        cart := cart
        policy := policy
        wram := Memory.ofBytes (ram.wram.take Config.wramSize)
        hram := Memory.ofBytes (ram.hram.take Config.hramSize)
        ppu :=
          { State.reset.ppu with
            vram := Memory.ofBytes (ram.vram.take Config.vramSize)
            oam := Memory.ofBytes (ram.oam.take Config.oamSize) } }

/-- `TakeFrame()` (rule R432). -/
def State.takeFrame (s : State) : Frame := s.ppu.front

/-- `SetButtons(pressed)` (rule R482). -/
def State.setButtons (s : State) (pressed : Byte) : State :=
  { s with joypad := { s.joypad with buttons := pressed } }

/-- `ExtRamRead()` (rule R466). -/
def State.extRamRead (s : State) : List Byte := s.cart.extRam.toBytes s.cart.ramLen

/-- `ExtRamReplace(bytes)`: refused, `none`, unless there are exactly as many bytes as RAM (rule R466). -/
def State.extRamReplace (s : State) (bs : List Byte) : Option State :=
  if bs.length = s.cart.ramLen then some { s with cart := { s.cart with extRam := Memory.ofBytes bs } } else none

/-- What `RunOneFrame()` returns, with the state it leaves (rules R357, R358). -/
inductive FrameResult where
  /-- A frame completed. -/
  | complete (frame : Frame) (s : State)
  /-- A step ended in an outcome: the last fully composited frame and the outcome. -/
  | stopped (frame : Frame) (f : Fault) (s : State)
  /-- The model has no meaning for an instruction. -/
  | refused (r : Refusal) (s : State)
  /-- The bound on the number of steps given to the loop is used up. -/
  | outOfFuel (s : State)
deriving DecidableEq, Repr

/-- `RunOneFrame()`, with a bound on its loop (rules R357, R358). -/
def State.runOneFrame : Nat → State → FrameResult
  | 0, s => .outOfFuel s
  | fuel + 1, s =>
    match step s with
    | .fault f => .stopped s.takeFrame f (s.afterOutcome f)
    | .refused r => .refused r s
    | .next s1 =>
      if s1.ppu.frameComplete then
        .complete s1.takeFrame { s1 with ppu := { s1.ppu with frameComplete := false } }
      else State.runOneFrame fuel s1

end Sys2Proof.Machine
end

