-- ==== Sys2Proof/Safety.lean ====
section
/-! DEFINITION. The terms claims are stated in: the invariant every step keeps, and what it means that an
instruction leaves the rest of the machine alone. -/

namespace Sys2Proof.Machine

/-! ### The invariant -/

/-- An array in canonical form whose listed offsets are inside it. -/
abbrev Memory.ok (m : Memory) (size : Nat) : Prop := m.wf ∧ m.below size

/-- A framebuffer is 144 rows of 160 shades (rule R33). -/
abbrev Frame.shaped (x : Frame) : Prop :=
  x.length = Config.screenHeight ∧ ∀ row ∈ x, row.length = Config.screenWidth

/-- The low nibble of F is zero (rule R22), and the CPU is not halted with an EI still pending (rule R315). -/
structure Cpu.Inv (c : Cpu) : Prop where
  lowNibble : c.f &&& 0x0F = 0
  haltedCommitted : c.halted = true → c.imePending = false

/-- The accumulator is below the selected period (rules R31, R383), and while a reload is pending its window has
1 to 4 ticks left and no second overflow can fall into it (rules R31, R375). -/
structure Timer.Inv (t : Timer) : Prop where
  accBelowPeriod : t.timerAcc.toNat < timerPeriod t.tac
  window : t.reloadPending = true →
    1 ≤ t.reloadDelay.toNat ∧ t.timerAcc.toNat + t.reloadDelay.toNat ≤ 4

/-- The mode that the scanline and the dot fix while the LCD is on (rules R391, R392). -/
def modeAt (ly dot : Nat) : Mode :=
  if Config.screenHeight ≤ ly then .vblank
  else if dot < 80 then .oamScan
  else if dot < 252 then .transfer
  else .hblank

/-- The most window rows that can have been drawn when the PPU stands at this scanline and dot (rule R416). -/
def windowRowsBound (ly dot : Nat) : Nat :=
  if Config.screenHeight ≤ ly then Config.screenHeight else if dot < 80 then ly else ly + 1

/-- The counters and modes of rule R392, with the bound that rule R416 gives the window line counter (log entry
5), the arrays in canonical form, and the shape of the framebuffers. -/
structure Ppu.Inv (p : Ppu) : Prop where
  lyRange : p.ly < Config.scanlines
  dotRange : p.dot < Config.dotsPerLine
  onMode : p.lcdOn = true → p.mode = modeAt p.ly p.dot
  off : p.lcdOn = false → p.ly = 0 ∧ p.dot = 0 ∧ p.mode = .hblank
  windowRows : p.wly ≤ windowRowsBound p.ly p.dot
  offRange : p.offCounter < Config.frameTicks
  vramOk : p.vram.ok Config.vramSize
  oamOk : p.oam.ok Config.oamSize
  backShaped : p.back.shaped
  frontShaped : p.front.shaped

/-- The image has the bank count it was loaded with, at least one (rules R35, R451); external RAM has one of the
sizes of rule R35; the lower bank register is
never zero (rules R35, R457); without a controller there is no RAM (rule R465). -/
structure Cart.Inv (c : Cart) : Prop where
  romOk : c.rom.ok c.romLen
  banksPresent : 1 ≤ c.romBanks
  banksInImage : c.romBanks = c.romLen / Config.romBankSize
  extRamOk : c.extRam.ok c.ramLen
  ramSize : c.ramLen ∈ [0, 2048, 8192, 32768, 65536, 131072]
  bank1NotZero : c.bank1 ≠ 0
  noneHasNoRam : c.cartType = .none → c.ramLen = 0

/-- The invariant of the machine. -/
structure State.Inv (s : State) : Prop where
  cpu : s.cpu.Inv
  timer : s.timer.Inv
  ppu : s.ppu.Inv
  cart : s.cart.Inv
  wramOk : s.wram.ok Config.wramSize
  hramOk : s.hram.ok Config.hramSize

/-! ### Frames -/

/-- The control latches of the CPU are unchanged (rules R26 to R29). -/
def SameLatches (s t : State) : Prop :=
  t.cpu.ime = s.cpu.ime ∧ t.cpu.imePending = s.cpu.imePending ∧ t.cpu.halted = s.cpu.halted ∧
    t.cpu.dead = s.cpu.dead

/-- Everything outside the CPU is unchanged: the interrupt controller, the devices, every array, and so every
byte a bus read can give. -/
structure SameOutsideCpu (s t : State) : Prop where
  irq : t.irq = s.irq
  timer : t.timer = s.timer
  ppu : t.ppu = s.ppu
  cart : t.cart = s.cart
  wram : t.wram = s.wram
  hram : t.hram = s.hram
  joypad : t.joypad = s.joypad
  serial : t.serial = s.serial
  dma : t.dma = s.dma
  policy : t.policy = s.policy
  reads : ∀ x : Word, t.busRead x = s.busRead x

/-- The address leads to a byte of a RAM array that the CPU can reach now: work RAM, echo RAM, high RAM, enabled
external RAM, unlocked VRAM or OAM (rule R176). -/
def State.plainRam (s : State) (a : Word) : Prop :=
  match s.place a with
  | .wram _ | .hram _ | .extRam _ => True
  | .vram _ => s.ppu.vramLocked = false
  | .oam _ => s.ppu.oamLocked = false
  | _ => False

/-- Outside the CPU `t` is `s` after the one bus write of `v` to `a`. Where `a` is plain RAM, the byte is there,
and every address that leads to another byte reads as before. -/
structure OneStore (s t : State) (a : Word) (v : Byte) : Prop where
  written : SameOutsideCpu (s.busWrite a v) t
  stored : s.plainRam a → t.busRead a = v
  others : s.plainRam a → ∀ x : Word, s.place x ≠ s.place a → t.busRead x = s.busRead x

/-- Outside the CPU `t` is `s` after the bus write of `v` to `a` and then of `w` to `b`. Where both are plain RAM,
the bytes are there, and every address that leads to another byte reads as before. -/
structure TwoStores (s t : State) (a : Word) (v : Byte) (b : Word) (w : Byte) : Prop where
  written : SameOutsideCpu ((s.busWrite a v).busWrite b w) t
  storedFirst : s.plainRam a → s.plainRam b → s.place a ≠ s.place b → t.busRead a = v
  storedSecond : s.plainRam a → s.plainRam b → t.busRead b = w
  others : s.plainRam a → s.plainRam b → ∀ x : Word, s.place x ≠ s.place a → s.place x ≠ s.place b →
    t.busRead x = s.busRead x

/-- Every general register but those listed is unchanged, and SP and the latches are. -/
def SameRegsBut (s t : State) (ds : List Reg8) : Prop :=
  (∀ q : Reg8, q ∉ ds → t.reg q = s.reg q) ∧ t.cpu.sp = s.cpu.sp ∧ SameLatches s t

/-- The two registers of a pair; the stack pointer has none (rule R21). -/
def pairParts : Pair → List Reg8
  | .bc => [.b, .c]
  | .de => [.d, .e]
  | .hl => [.h, .l]
  | .sp => []

/-- Every register but the pair is unchanged, and the latches are. -/
def SameRegsButPair (s t : State) (p : Pair) : Prop :=
  (∀ q : Reg8, q ∉ pairParts p → t.reg q = s.reg q) ∧ (p ≠ .sp → t.cpu.sp = s.cpu.sp) ∧ SameLatches s t

/-- The instruction is over: `pc` stands at `target` and the step returns `ticks`. -/
def Ends (t : State) (target : Word) (ticks : Nat) : Prop := t.cpu.pc = target ∧ t.cycles = ticks

/-- An outcome is a next state, and that state is as said. -/
def Completes (o : StepOutcome) (post : State → Prop) : Prop := ∃ t : State, o = .next t ∧ post t

/-! ### The codes of the opcode fields (rule R115) -/

/-- The code of a register in `r[ ]`; 6 is memory at HL. -/
def codeOfReg : Reg8 → Nat
  | .b => 0 | .c => 1 | .d => 2 | .e => 3 | .h => 4 | .l => 5 | .a => 7

/-- The code of a pair in `rp[ ]`. -/
def codeOfPair : Pair → Nat
  | .bc => 0 | .de => 1 | .hl => 2 | .sp => 3

/-- The code of a pair in `rp2[ ]`. -/
def codeOfStackPair : StackPair → Nat
  | .bc => 0 | .de => 1 | .hl => 2 | .af => 3

/-- The code of a condition in `cc[ ]`. -/
def codeOfCond : Cond → Nat
  | .nz => 0 | .z => 1 | .nc => 2 | .c => 3

/-- The code of an operation in `alu[ ]`. -/
def codeOfAlu : AluOp → Nat
  | .add => 0 | .adc => 1 | .sub => 2 | .sbc => 3 | .and => 4 | .xor => 5 | .or => 6 | .cp => 7

/-- The code of a rotate or shift in `rot[ ]`. -/
def codeOfRot : RotOp → Nat
  | .rlc => 0 | .rrc => 1 | .rl => 2 | .rr => 3 | .sla => 4 | .sra => 5 | .swap => 6 | .srl => 7

/-! ### Results and flags, as the rules write them on numbers -/

/-- The four flags of a flags byte; its low nibble is zero (rules R22, R25). -/
abbrev FlagsAre (f : Byte) (z n h c : Bool) : Prop :=
  f.getLsbD 7 = z ∧ f.getLsbD 6 = n ∧ f.getLsbD 5 = h ∧ f.getLsbD 4 = c ∧ f &&& 0x0F = 0

/-- `x` and `f` are the result and the flags of `Add8(a, v, c)` (rule R190). -/
def AddResult (a v : Byte) (c : Bool) (x f : Byte) : Prop :=
  x.toNat = (a.toNat + v.toNat + c.toNat) % 256 ∧
  FlagsAre f (x == 0) false (decide (0x0F < a.toNat % 16 + v.toNat % 16 + c.toNat))
    (decide (0xFF < a.toNat + v.toNat + c.toNat))

/-- `x` and `f` are the result and the flags of `Sub8(a, v, c)` (rule R190). -/
def SubResult (a v : Byte) (c : Bool) (x f : Byte) : Prop :=
  (x.toNat : Int) = ((a.toNat : Int) - v.toNat - c.toNat) % 256 ∧
  FlagsAre f (x == 0) true (decide (a.toNat % 16 < v.toNat % 16 + c.toNat))
    (decide (a.toNat < v.toNat + c.toNat))

/-- `x` is `a` and, exclusive or, or or `v`, bit by bit (rules R203 to R211). -/
def LogicResult (k : AluOp) (a v x : Byte) : Prop :=
  ∀ i : Nat, i < 8 → x.getLsbD i =
    match k with
    | .and => a.getLsbD i && v.getLsbD i
    | .xor => a.getLsbD i != v.getLsbD i
    | _ => a.getLsbD i || v.getLsbD i

/-- The value `e` of a displacement byte in two's complement (rule R116). -/
def displacement (e : Byte) : Int := if e.toNat < 0x80 then e.toNat else (e.toNat : Int) - 0x100

/-- The result and the carry of a rotate or shift, on numbers: `v` is the operand and `cy` the old carry, 0 or 1
(rules R245 to R260). -/
def rotOnNumbers (k : RotOp) (v cy : Nat) : Nat × Nat :=
  match k with
  | .rlc => (v * 2 % 256 + v / 128, v / 128)
  | .rrc => (v / 2 + v % 2 * 128, v % 2)
  | .rl => (v * 2 % 256 + cy, v / 128)
  | .rr => (v / 2 + cy * 128, v % 2)
  | .sla => (v * 2 % 256, v / 128)
  | .sra => (v / 2 + v / 128 * 128, v % 2)
  | .swap => (v % 16 * 16 + v / 16, 0)
  | .srl => (v / 2, v % 2)

/-- A condition on the flags byte (rule R291). -/
def condHolds (k : Cond) (f : Byte) : Bool :=
  match k with
  | .nz => f.getLsbD 7 == false
  | .z => f.getLsbD 7 == true
  | .nc => f.getLsbD 4 == false
  | .c => f.getLsbD 4 == true

/-- The two decimal digits of a number below 100 as packed BCD (rule R219). -/
def packedBcd (n : Nat) : Byte := BitVec.ofNat 8 (n / 10 * 16 + n % 10)

end Sys2Proof.Machine
end

