-- ==== Sys2Proof/Certificates/Slice0/Obligations.lean ====
section
/-! DEFINITION. The statements about the machine, from the numbered rules of the spec. `Completes o post` says
that an instruction answers a next state, and what that state holds; the words of each frame are in
Sys2Proof/Safety.lean. -/

open Sys2Proof Sys2Proof.Machine

/-! ### 8-bit loads -/

/-- `LD r,r'`, `LD r,n`, `LD r,(HL)`, `LD (HL),r` and `LD (HL),n`, for every register (rules R140 to R144). -/
def Obligations.RegisterLoadsAndStoresAtHl : Prop :=
  (∀ (s : State) (dst : Reg8),
     (∀ src : Reg8, encode (Instr.ldRegReg dst src) = [BitVec.ofNat 8 (0x40 + 8 * codeOfReg dst + codeOfReg src)] ∧
      Completes (exec (Instr.ldRegReg dst src) s) fun t =>
       t.reg dst = s.reg src ∧ t.cpu.f = s.cpu.f ∧ SameRegsBut s t [dst] ∧ SameOutsideCpu s t ∧
         Ends t (s.cpu.pc + 1) 4) ∧
     (∀ n : Byte, encode (Instr.ldRegImm dst n) = [BitVec.ofNat 8 (0x06 + 8 * codeOfReg dst), n] ∧
      Completes (exec (Instr.ldRegImm dst n) s) fun t =>
       t.reg dst = n ∧ t.cpu.f = s.cpu.f ∧ SameRegsBut s t [dst] ∧ SameOutsideCpu s t ∧
         Ends t (s.cpu.pc + 2) 8) ∧
     encode (Instr.ldRegHl dst) = [BitVec.ofNat 8 (0x46 + 8 * codeOfReg dst)] ∧
       Completes (exec (Instr.ldRegHl dst) s) fun t =>
       t.reg dst = s.busRead (joinBytes s.cpu.h s.cpu.l) ∧ t.cpu.f = s.cpu.f ∧ SameRegsBut s t [dst] ∧
         SameOutsideCpu s t ∧ Ends t (s.cpu.pc + 1) 8) ∧
  ∀ s : State,
    (∀ src : Reg8, encode (Instr.ldHlReg src) = [BitVec.ofNat 8 (0x70 + codeOfReg src)] ∧
     Completes (exec (Instr.ldHlReg src) s) fun t =>
      OneStore s t (joinBytes s.cpu.h s.cpu.l) (s.reg src) ∧ t.cpu.f = s.cpu.f ∧ SameRegsBut s t [] ∧
        Ends t (s.cpu.pc + 1) 8) ∧
    (∀ n : Byte, encode (.ldIndHlImm n) = [0x36, n] ∧
     Completes (exec (.ldIndHlImm n) s) fun t =>
      OneStore s t (joinBytes s.cpu.h s.cpu.l) n ∧ t.cpu.f = s.cpu.f ∧ SameRegsBut s t [] ∧
        Ends t (s.cpu.pc + 2) 12)

/-- The loads and stores of A at BC, DE, an absolute address and the high page (rules R145 to R154). -/
def Obligations.AccumulatorLoadsAndStores : Prop :=
  (∀ s : State,
     (encode .ldAIndBc = [0x0A] ∧
      Completes (exec .ldAIndBc s) fun t =>
       t.cpu.a = s.busRead (joinBytes s.cpu.b s.cpu.c) ∧ t.cpu.f = s.cpu.f ∧ SameRegsBut s t [.a] ∧
         SameOutsideCpu s t ∧ Ends t (s.cpu.pc + 1) 8) ∧
     (encode .ldAIndDe = [0x1A] ∧
      Completes (exec .ldAIndDe s) fun t =>
       t.cpu.a = s.busRead (joinBytes s.cpu.d s.cpu.e) ∧ t.cpu.f = s.cpu.f ∧ SameRegsBut s t [.a] ∧
         SameOutsideCpu s t ∧ Ends t (s.cpu.pc + 1) 8) ∧
     (∀ nn : Word, encode (.ldAIndAbs nn) = [0xFA, loByte nn, hiByte nn] ∧
      Completes (exec (.ldAIndAbs nn) s) fun t =>
       t.cpu.a = s.busRead nn ∧ t.cpu.f = s.cpu.f ∧ SameRegsBut s t [.a] ∧
         SameOutsideCpu s t ∧ Ends t (s.cpu.pc + 3) 16) ∧
     (encode .ldhAIndC = [0xF2] ∧
      Completes (exec .ldhAIndC s) fun t =>
       t.cpu.a = s.busRead (BitVec.ofNat 16 (0xFF00 + s.cpu.c.toNat)) ∧ t.cpu.f = s.cpu.f ∧ SameRegsBut s t [.a] ∧
         SameOutsideCpu s t ∧ Ends t (s.cpu.pc + 1) 8) ∧
     (∀ n : Byte, encode (.ldhAIndImm n) = [0xF0, n] ∧
      Completes (exec (.ldhAIndImm n) s) fun t =>
       t.cpu.a = s.busRead (BitVec.ofNat 16 (0xFF00 + n.toNat)) ∧ t.cpu.f = s.cpu.f ∧ SameRegsBut s t [.a] ∧
         SameOutsideCpu s t ∧ Ends t (s.cpu.pc + 2) 12)) ∧
  ∀ s : State,
    (encode .ldIndBcA = [0x02] ∧
     Completes (exec .ldIndBcA s) fun t =>
      OneStore s t (joinBytes s.cpu.b s.cpu.c) s.cpu.a ∧ t.cpu.f = s.cpu.f ∧ SameRegsBut s t [] ∧
        Ends t (s.cpu.pc + 1) 8) ∧
    (encode .ldIndDeA = [0x12] ∧
     Completes (exec .ldIndDeA s) fun t =>
      OneStore s t (joinBytes s.cpu.d s.cpu.e) s.cpu.a ∧ t.cpu.f = s.cpu.f ∧ SameRegsBut s t [] ∧
        Ends t (s.cpu.pc + 1) 8) ∧
    (∀ nn : Word, encode (.ldIndAbsA nn) = [0xEA, loByte nn, hiByte nn] ∧
     Completes (exec (.ldIndAbsA nn) s) fun t =>
      OneStore s t nn s.cpu.a ∧ t.cpu.f = s.cpu.f ∧ SameRegsBut s t [] ∧ Ends t (s.cpu.pc + 3) 16) ∧
    (encode .ldhIndCA = [0xE2] ∧
     Completes (exec .ldhIndCA s) fun t =>
      OneStore s t (BitVec.ofNat 16 (0xFF00 + s.cpu.c.toNat)) s.cpu.a ∧ t.cpu.f = s.cpu.f ∧ SameRegsBut s t [] ∧
        Ends t (s.cpu.pc + 1) 8) ∧
    (∀ n : Byte, encode (.ldhIndImmA n) = [0xE0, n] ∧
     Completes (exec (.ldhIndImmA n) s) fun t =>
      OneStore s t (BitVec.ofNat 16 (0xFF00 + n.toNat)) s.cpu.a ∧ t.cpu.f = s.cpu.f ∧ SameRegsBut s t [] ∧
        Ends t (s.cpu.pc + 2) 12)

/-- The loads and stores of A at HL that then move HL by one, also when the write is dropped (rules R155 to
R158). -/
def Obligations.LoadsAndStoresThatMoveHl : Prop :=
  ∀ s : State, ∀ hl : Word, hl = joinBytes s.cpu.h s.cpu.l →
    (encode .ldAIndHlInc = [0x2A] ∧
     Completes (exec .ldAIndHlInc s) fun t =>
      t.cpu.a = s.busRead hl ∧ joinBytes t.cpu.h t.cpu.l = hl + 1 ∧ t.cpu.f = s.cpu.f ∧
        SameRegsBut s t [.a, .h, .l] ∧ SameOutsideCpu s t ∧ Ends t (s.cpu.pc + 1) 8) ∧
    (encode .ldAIndHlDec = [0x3A] ∧
     Completes (exec .ldAIndHlDec s) fun t =>
      t.cpu.a = s.busRead hl ∧ joinBytes t.cpu.h t.cpu.l = hl - 1 ∧ t.cpu.f = s.cpu.f ∧
        SameRegsBut s t [.a, .h, .l] ∧ SameOutsideCpu s t ∧ Ends t (s.cpu.pc + 1) 8) ∧
    (encode .ldIndHlIncA = [0x22] ∧
     Completes (exec .ldIndHlIncA s) fun t =>
      OneStore s t hl s.cpu.a ∧ joinBytes t.cpu.h t.cpu.l = hl + 1 ∧ t.cpu.f = s.cpu.f ∧
        SameRegsBut s t [.h, .l] ∧ Ends t (s.cpu.pc + 1) 8) ∧
    (encode .ldIndHlDecA = [0x32] ∧
     Completes (exec .ldIndHlDecA s) fun t =>
      OneStore s t hl s.cpu.a ∧ joinBytes t.cpu.h t.cpu.l = hl - 1 ∧ t.cpu.f = s.cpu.f ∧
        SameRegsBut s t [.h, .l] ∧ Ends t (s.cpu.pc + 1) 8)

/-! ### 16-bit loads and the stack -/

/-- `LD rp,nn` (rule R170). -/
def Obligations.PairImmediateLoadsResultAndFrame : Prop :=
  ∀ (s : State) (p : Pair) (nn : Word),
    encode (Instr.ldPairImm p nn) = [BitVec.ofNat 8 (0x01 + 16 * codeOfPair p), loByte nn, hiByte nn] ∧
    Completes (exec (Instr.ldPairImm p nn) s) fun t =>
    t.pair p = nn ∧ t.cpu.f = s.cpu.f ∧ SameRegsButPair s t p ∧ SameOutsideCpu s t ∧ Ends t (s.cpu.pc + 3) 12

/-- `LD (nn),SP`, `LD SP,HL` and `LD HL,SP+e` with the two carries of the low byte (rules R171, R172, R173). -/
def Obligations.StackPointerMovesResultAndFrame : Prop :=
  ∀ s : State,
    (∀ nn : Word, encode (.ldIndAbsSp nn) = [0x08, loByte nn, hiByte nn] ∧
     Completes (exec (.ldIndAbsSp nn) s) fun t =>
      TwoStores s t nn (loByte s.cpu.sp) (nn + 1) (hiByte s.cpu.sp) ∧ t.cpu.f = s.cpu.f ∧ SameRegsBut s t [] ∧
        Ends t (s.cpu.pc + 3) 20) ∧
    (encode .ldSpHl = [0xF9] ∧
     Completes (exec .ldSpHl s) fun t =>
      t.cpu.sp = joinBytes s.cpu.h s.cpu.l ∧ t.cpu.f = s.cpu.f ∧ SameRegsButPair s t .sp ∧ SameOutsideCpu s t ∧
        Ends t (s.cpu.pc + 1) 8) ∧
    (∀ e : Byte, encode (.ldHlSpRel e) = [0xF8, e] ∧
     Completes (exec (.ldHlSpRel e) s) fun t =>
      ((joinBytes t.cpu.h t.cpu.l).toNat : Int) = ((s.cpu.sp.toNat : Int) + displacement e) % 0x10000 ∧
        FlagsAre t.cpu.f false false (decide (0x0F < s.cpu.sp.toNat % 16 + e.toNat % 16))
          (decide (0xFF < s.cpu.sp.toNat % 256 + e.toNat)) ∧
        SameRegsBut s t [.h, .l] ∧ SameOutsideCpu s t ∧ Ends t (s.cpu.pc + 2) 12)

/-- `PUSH rp2`: the high register at SP - 1, then the low register at SP - 2. `POP rp2`: the low register from SP, the
high register from SP + 1; AF drops the low nibble of F (rules R174, R175). -/
def Obligations.PushAndPopResultAndFrame : Prop :=
  (∀ (s : State) (p : StackPair), encode (Instr.pushPair p) = [BitVec.ofNat 8 (0xC5 + 16 * codeOfStackPair p)] ∧
   Completes (exec (Instr.pushPair p) s) fun t =>
     TwoStores s t (s.cpu.sp - 1) (hiByte (s.stackPair p)) (s.cpu.sp - 2) (loByte (s.stackPair p)) ∧
       t.cpu.sp = s.cpu.sp - 2 ∧ t.cpu.f = s.cpu.f ∧ SameRegsButPair s t .sp ∧ Ends t (s.cpu.pc + 1) 16) ∧
  ∀ s : State, ∀ lo hi : Byte, lo = s.busRead s.cpu.sp → hi = s.busRead (s.cpu.sp + 1) →
    (encode (Instr.popPair .bc) = [0xC1] ∧
     Completes (exec (Instr.popPair .bc) s) fun t =>
      t.cpu.b = hi ∧ t.cpu.c = lo ∧ t.cpu.f = s.cpu.f ∧ t.cpu.sp = s.cpu.sp + 2 ∧
        (∀ q : Reg8, q ∉ [Reg8.b, Reg8.c] → t.reg q = s.reg q) ∧ SameLatches s t ∧ SameOutsideCpu s t ∧
        Ends t (s.cpu.pc + 1) 12) ∧
    (encode (Instr.popPair .de) = [0xD1] ∧
     Completes (exec (Instr.popPair .de) s) fun t =>
      t.cpu.d = hi ∧ t.cpu.e = lo ∧ t.cpu.f = s.cpu.f ∧ t.cpu.sp = s.cpu.sp + 2 ∧
        (∀ q : Reg8, q ∉ [Reg8.d, Reg8.e] → t.reg q = s.reg q) ∧ SameLatches s t ∧ SameOutsideCpu s t ∧
        Ends t (s.cpu.pc + 1) 12) ∧
    (encode (Instr.popPair .hl) = [0xE1] ∧
     Completes (exec (Instr.popPair .hl) s) fun t =>
      t.cpu.h = hi ∧ t.cpu.l = lo ∧ t.cpu.f = s.cpu.f ∧ t.cpu.sp = s.cpu.sp + 2 ∧
        (∀ q : Reg8, q ∉ [Reg8.h, Reg8.l] → t.reg q = s.reg q) ∧ SameLatches s t ∧ SameOutsideCpu s t ∧
        Ends t (s.cpu.pc + 1) 12) ∧
    (encode (Instr.popPair .af) = [0xF1] ∧
     Completes (exec (Instr.popPair .af) s) fun t =>
      t.cpu.a = hi ∧ t.cpu.f = lo &&& 0xF0 ∧ t.cpu.sp = s.cpu.sp + 2 ∧
        (∀ q : Reg8, q ∉ [Reg8.a] → t.reg q = s.reg q) ∧ SameLatches s t ∧ SameOutsideCpu s t ∧
        Ends t (s.cpu.pc + 1) 12)

/-- A push and then a pop give the value back, and SP its old value, for every two pairs while the stack is in
plain RAM; a popped AF has its low nibble cleared (rule R176). The cartridge invariant rules out only RAM sizes
that no image has. -/
def Obligations.PushThenPopIsIdentity : Prop :=
  ∀ (s : State) (p q : StackPair), s.cart.Inv → s.plainRam (s.cpu.sp - 1) → s.plainRam (s.cpu.sp - 2) →
    Completes (exec (Instr.pushPair p) s) fun t =>
      Completes (exec (Instr.popPair q) t) fun u =>
        u.stackPair q = (if q = .af then s.stackPair p &&& 0xFFF0 else s.stackPair p) ∧ u.cpu.sp = s.cpu.sp

/-! ### 8-bit arithmetic and logic -/

/-- `ADD` and `ADC` in their three operand forms (rules R191 to R196). -/
def Obligations.AdditionsResultAndFlags : Prop :=
  ∀ s : State, ∀ cy : Bool, cy = s.cpu.f.getLsbD 4 → ∀ k : AluOp, k = .add ∨ k = .adc →
    (∀ src : Reg8, encode (Instr.aluReg k src) = [BitVec.ofNat 8 (0x80 + 8 * codeOfAlu k + codeOfReg src)] ∧
     Completes (exec (Instr.aluReg k src) s) fun t =>
      AddResult s.cpu.a (s.reg src) (cy && decide (k = .adc)) t.cpu.a t.cpu.f ∧ SameRegsBut s t [.a] ∧
        SameOutsideCpu s t ∧ Ends t (s.cpu.pc + 1) 4) ∧
    (encode (Instr.aluHl k) = [BitVec.ofNat 8 (0x86 + 8 * codeOfAlu k)] ∧
     Completes (exec (Instr.aluHl k) s) fun t =>
      AddResult s.cpu.a (s.busRead (joinBytes s.cpu.h s.cpu.l)) (cy && decide (k = .adc)) t.cpu.a t.cpu.f ∧
        SameRegsBut s t [.a] ∧ SameOutsideCpu s t ∧ Ends t (s.cpu.pc + 1) 8) ∧
    (∀ n : Byte, encode (Instr.aluImm k n) = [BitVec.ofNat 8 (0xC6 + 8 * codeOfAlu k), n] ∧
     Completes (exec (Instr.aluImm k n) s) fun t =>
      AddResult s.cpu.a n (cy && decide (k = .adc)) t.cpu.a t.cpu.f ∧ SameRegsBut s t [.a] ∧
        SameOutsideCpu s t ∧ Ends t (s.cpu.pc + 2) 8)

/-- `SUB` and `SBC` in their three operand forms (rules R197 to R202). -/
def Obligations.SubtractionsResultAndFlags : Prop :=
  ∀ s : State, ∀ cy : Bool, cy = s.cpu.f.getLsbD 4 → ∀ k : AluOp, k = .sub ∨ k = .sbc →
    (∀ src : Reg8, encode (Instr.aluReg k src) = [BitVec.ofNat 8 (0x80 + 8 * codeOfAlu k + codeOfReg src)] ∧
     Completes (exec (Instr.aluReg k src) s) fun t =>
      SubResult s.cpu.a (s.reg src) (cy && decide (k = .sbc)) t.cpu.a t.cpu.f ∧ SameRegsBut s t [.a] ∧
        SameOutsideCpu s t ∧ Ends t (s.cpu.pc + 1) 4) ∧
    (encode (Instr.aluHl k) = [BitVec.ofNat 8 (0x86 + 8 * codeOfAlu k)] ∧
     Completes (exec (Instr.aluHl k) s) fun t =>
      SubResult s.cpu.a (s.busRead (joinBytes s.cpu.h s.cpu.l)) (cy && decide (k = .sbc)) t.cpu.a t.cpu.f ∧
        SameRegsBut s t [.a] ∧ SameOutsideCpu s t ∧ Ends t (s.cpu.pc + 1) 8) ∧
    (∀ n : Byte, encode (Instr.aluImm k n) = [BitVec.ofNat 8 (0xC6 + 8 * codeOfAlu k), n] ∧
     Completes (exec (Instr.aluImm k n) s) fun t =>
      SubResult s.cpu.a n (cy && decide (k = .sbc)) t.cpu.a t.cpu.f ∧ SameRegsBut s t [.a] ∧
        SameOutsideCpu s t ∧ Ends t (s.cpu.pc + 2) 8)

/-- `AND`, `XOR` and `OR` in their three operand forms, bit by bit; AND sets the half-carry, all clear the carry
(rules R203 to R211). -/
def Obligations.LogicResultAndFlags : Prop :=
  ∀ s : State, ∀ k : AluOp, k = .and ∨ k = .xor ∨ k = .or →
    (∀ src : Reg8, encode (Instr.aluReg k src) = [BitVec.ofNat 8 (0x80 + 8 * codeOfAlu k + codeOfReg src)] ∧
     Completes (exec (Instr.aluReg k src) s) fun t =>
      LogicResult k s.cpu.a (s.reg src) t.cpu.a ∧ FlagsAre t.cpu.f (t.cpu.a == 0) false (decide (k = .and)) false ∧
        SameRegsBut s t [.a] ∧ SameOutsideCpu s t ∧ Ends t (s.cpu.pc + 1) 4) ∧
    (encode (Instr.aluHl k) = [BitVec.ofNat 8 (0x86 + 8 * codeOfAlu k)] ∧
     Completes (exec (Instr.aluHl k) s) fun t =>
      LogicResult k s.cpu.a (s.busRead (joinBytes s.cpu.h s.cpu.l)) t.cpu.a ∧
        FlagsAre t.cpu.f (t.cpu.a == 0) false (decide (k = .and)) false ∧
        SameRegsBut s t [.a] ∧ SameOutsideCpu s t ∧ Ends t (s.cpu.pc + 1) 8) ∧
    (∀ n : Byte, encode (Instr.aluImm k n) = [BitVec.ofNat 8 (0xC6 + 8 * codeOfAlu k), n] ∧
     Completes (exec (Instr.aluImm k n) s) fun t =>
      LogicResult k s.cpu.a n t.cpu.a ∧ FlagsAre t.cpu.f (t.cpu.a == 0) false (decide (k = .and)) false ∧
        SameRegsBut s t [.a] ∧ SameOutsideCpu s t ∧ Ends t (s.cpu.pc + 2) 8)

/-- `CP` in its three operand forms: the flags of the subtraction, and no register written (rules R212 to
R214). -/
def Obligations.ComparesOnlyWriteFlags : Prop :=
  ∀ s : State,
    (∀ src : Reg8, encode (Instr.aluReg .cp src) = [BitVec.ofNat 8 (0xB8 + codeOfReg src)] ∧
     Completes (exec (Instr.aluReg .cp src) s) fun t =>
      (∃ x : Byte, SubResult s.cpu.a (s.reg src) false x t.cpu.f) ∧ SameRegsBut s t [] ∧
        SameOutsideCpu s t ∧ Ends t (s.cpu.pc + 1) 4) ∧
    (encode (Instr.aluHl .cp) = [0xBE] ∧
     Completes (exec (Instr.aluHl .cp) s) fun t =>
      (∃ x : Byte, SubResult s.cpu.a (s.busRead (joinBytes s.cpu.h s.cpu.l)) false x t.cpu.f) ∧
        SameRegsBut s t [] ∧ SameOutsideCpu s t ∧ Ends t (s.cpu.pc + 1) 8) ∧
    (∀ n : Byte, encode (Instr.aluImm .cp n) = [0xFE, n] ∧
     Completes (exec (Instr.aluImm .cp n) s) fun t =>
      (∃ x : Byte, SubResult s.cpu.a n false x t.cpu.f) ∧ SameRegsBut s t [] ∧
        SameOutsideCpu s t ∧ Ends t (s.cpu.pc + 2) 8)

/-- `INC` and `DEC` of a register and of the byte at HL: the carry is kept (rules R215 to R218). -/
def Obligations.IncrementsAndDecrementsKeepCarry : Prop :=
  ∀ s : State,
    (∀ r : Reg8, encode (Instr.incReg r) = [BitVec.ofNat 8 (0x04 + 8 * codeOfReg r)] ∧
     Completes (exec (Instr.incReg r) s) fun t =>
      (t.reg r).toNat = ((s.reg r).toNat + 1) % 256 ∧
        FlagsAre t.cpu.f (t.reg r == 0) false (decide ((s.reg r).toNat % 16 = 15)) (s.cpu.f.getLsbD 4) ∧
        SameRegsBut s t [r] ∧ SameOutsideCpu s t ∧ Ends t (s.cpu.pc + 1) 4) ∧
    (∀ r : Reg8, encode (Instr.decReg r) = [BitVec.ofNat 8 (0x05 + 8 * codeOfReg r)] ∧
     Completes (exec (Instr.decReg r) s) fun t =>
      (t.reg r).toNat = ((s.reg r).toNat + 255) % 256 ∧
        FlagsAre t.cpu.f (t.reg r == 0) true (decide ((s.reg r).toNat % 16 = 0)) (s.cpu.f.getLsbD 4) ∧
        SameRegsBut s t [r] ∧ SameOutsideCpu s t ∧ Ends t (s.cpu.pc + 1) 4) ∧
    ∀ (hl : Word) (v : Byte), hl = joinBytes s.cpu.h s.cpu.l → v = s.busRead hl →
    (encode .incIndHl = [0x34] ∧
     Completes (exec .incIndHl s) fun t =>
      OneStore s t hl (v + 1) ∧
        FlagsAre t.cpu.f (v + 1 == 0) false (decide (v.toNat % 16 = 15)) (s.cpu.f.getLsbD 4) ∧
        SameRegsBut s t [] ∧ Ends t (s.cpu.pc + 1) 12) ∧
    (encode .decIndHl = [0x35] ∧
     Completes (exec .decIndHl s) fun t =>
      OneStore s t hl (v - 1) ∧
        FlagsAre t.cpu.f (v - 1 == 0) true (decide (v.toNat % 16 = 0)) (s.cpu.f.getLsbD 4) ∧
        SameRegsBut s t [] ∧ Ends t (s.cpu.pc + 1) 12)

/-- `DAA`, by its rule on numbers, for every A and every flags byte (rule R219). -/
def Obligations.DecimalAdjustResultAndFlags : Prop :=
  ∀ s : State, ∀ a lowAdj highAdj : Nat, ∀ n h c : Bool,
    a = s.cpu.a.toNat → n = s.cpu.f.getLsbD 6 → h = s.cpu.f.getLsbD 5 → c = s.cpu.f.getLsbD 4 →
    lowAdj = (if h = true ∨ (n = false ∧ 9 < a % 16) then 0x06 else 0) →
    highAdj = (if c = true ∨ (n = false ∧ 0x99 < a) then 0x60 else 0) →
    encode .daa = [0x27] ∧
      Completes (exec .daa s) fun t =>
      t.cpu.a.toNat = (if n then a + 256 - (lowAdj + highAdj) else a + (lowAdj + highAdj)) % 256 ∧
        FlagsAre t.cpu.f (t.cpu.a == 0) n false (decide (highAdj = 0x60)) ∧
        SameRegsBut s t [.a] ∧ SameOutsideCpu s t ∧ Ends t (s.cpu.pc + 1) 4

/-- Decimal arithmetic: an addition or subtraction of two packed BCD bytes and then `DAA` give the decimal result
modulo 100, with the decimal carry or borrow in the carry flag; ADC and SBC take the old carry in (rule R219). -/
def Obligations.DecimalAdjustGivesDecimalArithmetic : Prop :=
  ∀ (s : State) (x y : Nat) (cin : Nat), x < 100 → y < 100 → s.cpu.a = packedBcd x →
    cin = (s.cpu.f.getLsbD 4).toNat →
    (Completes (exec (.addAImm (packedBcd y)) s) fun t => Completes (exec .daa t) fun u =>
      u.cpu.a = packedBcd ((x + y) % 100) ∧ u.cpu.f.getLsbD 4 = decide (100 ≤ x + y)) ∧
    (Completes (exec (.adcAImm (packedBcd y)) s) fun t => Completes (exec .daa t) fun u =>
      u.cpu.a = packedBcd ((x + y + cin) % 100) ∧ u.cpu.f.getLsbD 4 = decide (100 ≤ x + y + cin)) ∧
    (Completes (exec (.subImm (packedBcd y)) s) fun t => Completes (exec .daa t) fun u =>
      u.cpu.a = packedBcd ((x + 100 - y) % 100) ∧ u.cpu.f.getLsbD 4 = decide (x < y)) ∧
    (Completes (exec (.sbcAImm (packedBcd y)) s) fun t => Completes (exec .daa t) fun u =>
      u.cpu.a = packedBcd ((x + 200 - (y + cin)) % 100) ∧ u.cpu.f.getLsbD 4 = decide (x < y + cin))

/-- `CPL`, `SCF` and `CCF`: the flags they write and those they keep (rules R220, R221, R222). -/
def Obligations.ComplementAndCarryInstructions : Prop :=
  ∀ s : State,
    (encode .cpl = [0x2F] ∧
     Completes (exec .cpl s) fun t =>
      t.cpu.a.toNat = 255 - s.cpu.a.toNat ∧ FlagsAre t.cpu.f (s.cpu.f.getLsbD 7) true true (s.cpu.f.getLsbD 4) ∧
        SameRegsBut s t [.a] ∧ SameOutsideCpu s t ∧ Ends t (s.cpu.pc + 1) 4) ∧
    (encode .scf = [0x37] ∧
     Completes (exec .scf s) fun t =>
      FlagsAre t.cpu.f (s.cpu.f.getLsbD 7) false false true ∧
        SameRegsBut s t [] ∧ SameOutsideCpu s t ∧ Ends t (s.cpu.pc + 1) 4) ∧
    (encode .ccf = [0x3F] ∧
     Completes (exec .ccf s) fun t =>
      FlagsAre t.cpu.f (s.cpu.f.getLsbD 7) false false (!s.cpu.f.getLsbD 4) ∧
        SameRegsBut s t [] ∧ SameOutsideCpu s t ∧ Ends t (s.cpu.pc + 1) 4)

/-! ### 16-bit arithmetic -/

/-- `ADD HL,rp` with the carries out of bits 11 and 15, `INC rp` and `DEC rp`, which touch no flag, and `ADD SP,e`
(rules R230 to R233). -/
def Obligations.PairArithmeticResultAndFlags : Prop :=
  (∀ (s : State) (p : Pair),
     (∀ hl x : Nat, hl = (joinBytes s.cpu.h s.cpu.l).toNat → x = (s.pair p).toNat →
       encode (Instr.addHlPair p) = [BitVec.ofNat 8 (0x09 + 16 * codeOfPair p)] ∧
         Completes (exec (Instr.addHlPair p) s) fun t =>
         (joinBytes t.cpu.h t.cpu.l).toNat = (hl + x) % 0x10000 ∧
           FlagsAre t.cpu.f (s.cpu.f.getLsbD 7) false (decide (0x0FFF < hl % 0x1000 + x % 0x1000))
             (decide (0xFFFF < hl + x)) ∧
           SameRegsBut s t [.h, .l] ∧ SameOutsideCpu s t ∧ Ends t (s.cpu.pc + 1) 8) ∧
     (encode (Instr.incPair p) = [BitVec.ofNat 8 (0x03 + 16 * codeOfPair p)] ∧
      Completes (exec (Instr.incPair p) s) fun t =>
       (t.pair p).toNat = ((s.pair p).toNat + 1) % 0x10000 ∧ t.cpu.f = s.cpu.f ∧ SameRegsButPair s t p ∧
         SameOutsideCpu s t ∧ Ends t (s.cpu.pc + 1) 8) ∧
     (encode (Instr.decPair p) = [BitVec.ofNat 8 (0x0B + 16 * codeOfPair p)] ∧
      Completes (exec (Instr.decPair p) s) fun t =>
       (t.pair p).toNat = ((s.pair p).toNat + 0xFFFF) % 0x10000 ∧ t.cpu.f = s.cpu.f ∧ SameRegsButPair s t p ∧
         SameOutsideCpu s t ∧ Ends t (s.cpu.pc + 1) 8)) ∧
  ∀ (s : State) (e : Byte), encode (.addSpRel e) = [0xE8, e] ∧
    Completes (exec (.addSpRel e) s) fun t =>
    (t.cpu.sp.toNat : Int) = ((s.cpu.sp.toNat : Int) + displacement e) % 0x10000 ∧
      FlagsAre t.cpu.f false false (decide (0x0F < s.cpu.sp.toNat % 16 + e.toNat % 16))
        (decide (0xFF < s.cpu.sp.toNat % 256 + e.toNat)) ∧
      SameRegsButPair s t .sp ∧ SameOutsideCpu s t ∧ Ends t (s.cpu.pc + 2) 16

/-! ### Rotates, shifts and bits -/

/-- `RLCA`, `RRCA`, `RLA`, `RRA`: Zero is always cleared (rules R240 to R243). -/
def Obligations.AccumulatorRotatesResultAndFlags : Prop :=
  ∀ s : State, ∀ cy : Nat, cy = (s.cpu.f.getLsbD 4).toNat →
    ∀ (i : Instr) (k : RotOp) (op : Byte),
      (i, k, op) ∈ [(Instr.rlca, RotOp.rlc, 0x07), (.rrca, .rrc, 0x0F), (.rla, .rl, 0x17), (.rra, .rr, 0x1F)] →
    encode i = [op] ∧
      Completes (exec i s) fun t =>
      t.cpu.a.toNat = (rotOnNumbers k s.cpu.a.toNat cy).1 ∧
        FlagsAre t.cpu.f false false false (decide ((rotOnNumbers k s.cpu.a.toNat cy).2 = 1)) ∧
        SameRegsBut s t [.a] ∧ SameOutsideCpu s t ∧ Ends t (s.cpu.pc + 1) 4

/-- The eight extended rotates and shifts of a register (rules R245, R247, R249, R251, R253, R255, R257, R259). -/
def Obligations.RegisterRotatesResultAndFlags : Prop :=
  ∀ (s : State) (k : RotOp) (r : Reg8), ∀ cy : Nat, cy = (s.cpu.f.getLsbD 4).toNat →
    encode (Instr.rotReg k r) = [0xCB, BitVec.ofNat 8 (8 * codeOfRot k + codeOfReg r)] ∧
      Completes (exec (Instr.rotReg k r) s) fun t =>
      (t.reg r).toNat = (rotOnNumbers k (s.reg r).toNat cy).1 ∧
        FlagsAre t.cpu.f (t.reg r == 0) false false
          (decide ((rotOnNumbers k (s.reg r).toNat cy).2 = 1)) ∧
        SameRegsBut s t [r] ∧ SameOutsideCpu s t ∧ Ends t (s.cpu.pc + 2) 8

/-- The eight extended rotates and shifts of the byte at HL (rules R246, R248, R250, R252, R254, R256, R258,
R260). -/
def Obligations.MemoryRotatesResultAndFlags : Prop :=
  ∀ (s : State) (k : RotOp), ∀ cy : Nat, cy = (s.cpu.f.getLsbD 4).toNat →
    ∀ (hl : Word) (v res : Byte), hl = joinBytes s.cpu.h s.cpu.l → v = s.busRead hl →
    res.toNat = (rotOnNumbers k v.toNat cy).1 →
    encode (Instr.rotHl k) = [0xCB, BitVec.ofNat 8 (0x06 + 8 * codeOfRot k)] ∧
      Completes (exec (Instr.rotHl k) s) fun t =>
      OneStore s t hl res ∧
        FlagsAre t.cpu.f (res == 0) false false (decide ((rotOnNumbers k v.toNat cy).2 = 1)) ∧
        SameRegsBut s t [] ∧ Ends t (s.cpu.pc + 2) 16

/-- `BIT b,r` and `BIT b,(HL)` write flags only (rules R261, R262). -/
def Obligations.BitTestsOnlyWriteFlags : Prop :=
  ∀ (s : State) (b : Fin 8),
    (∀ r : Reg8, encode (Instr.bitReg b r) = [0xCB, BitVec.ofNat 8 (0x40 + 8 * b.val + codeOfReg r)] ∧
     Completes (exec (Instr.bitReg b r) s) fun t =>
      FlagsAre t.cpu.f (decide ((s.reg r).getLsbD b.val = false)) false true (s.cpu.f.getLsbD 4) ∧
        SameRegsBut s t [] ∧ SameOutsideCpu s t ∧ Ends t (s.cpu.pc + 2) 8) ∧
    (encode (Instr.bitHl b) = [0xCB, BitVec.ofNat 8 (0x46 + 8 * b.val)] ∧
     Completes (exec (Instr.bitHl b) s) fun t =>
      FlagsAre t.cpu.f (decide ((s.busRead (joinBytes s.cpu.h s.cpu.l)).getLsbD b.val = false)) false true
          (s.cpu.f.getLsbD 4) ∧
        SameRegsBut s t [] ∧ SameOutsideCpu s t ∧ Ends t (s.cpu.pc + 2) 12)

/-- `RES` and `SET` write one bit of a register or of the byte at HL, and no flag (rules R263 to R266). -/
def Obligations.BitWritesChangeOneBit : Prop :=
  ∀ (s : State) (b : Fin 8) (value : Bool),
    (∀ r : Reg8,
      encode (if value then Instr.setReg b r else Instr.resReg b r) =
        [0xCB, BitVec.ofNat 8 ((if value then 0xC0 else 0x80) + 8 * b.val + codeOfReg r)] ∧
     Completes (exec (if value then Instr.setReg b r else Instr.resReg b r) s) fun t =>
      (∀ i : Nat, i < 8 → (t.reg r).getLsbD i = if i = b.val then value else (s.reg r).getLsbD i) ∧
        t.cpu.f = s.cpu.f ∧ SameRegsBut s t [r] ∧ SameOutsideCpu s t ∧ Ends t (s.cpu.pc + 2) 8) ∧
    ∀ (hl : Word) (v res : Byte), hl = joinBytes s.cpu.h s.cpu.l → v = s.busRead hl →
      (∀ i : Nat, i < 8 → res.getLsbD i = if i = b.val then value else v.getLsbD i) →
    (
      encode (if value then Instr.setHl b else Instr.resHl b) =
        [0xCB, BitVec.ofNat 8 ((if value then 0xC6 else 0x86) + 8 * b.val)] ∧
     Completes (exec (if value then Instr.setHl b else Instr.resHl b) s) fun t =>
      OneStore s t hl res ∧ t.cpu.f = s.cpu.f ∧ SameRegsBut s t [] ∧ Ends t (s.cpu.pc + 2) 16)

/-- The prefix row: its meaning is that of the extended row its second byte selects, and it always completes
(rule R244). -/
def Obligations.PrefixSelectsExtendedRow : Prop :=
  ∀ (s : State) (op2 : Byte), Completes (exec (.prefixCb op2) s) fun t =>
    exec (decodeExtended op2) s = .next t ∧ encode (decodeExtended op2) = [0xCB, op2] ∧
      t.cpu.pc = s.cpu.pc + 2

/-! ### Control flow -/

/-- `JP nn`, `JP HL`, `JR e`, and `JP cc,nn` and `JR cc,e`, taken or not, with the two tick counts (rules R280 to
R284, R291). -/
def Obligations.JumpsTakenOrNotOnlyWritePc : Prop :=
  (∀ s : State,
     (∀ nn : Word, encode (.jpImm nn) = [0xC3, loByte nn, hiByte nn] ∧
      Completes (exec (.jpImm nn) s) fun t =>
       t.cpu.f = s.cpu.f ∧ SameRegsBut s t [] ∧ SameOutsideCpu s t ∧ Ends t nn 16) ∧
     (encode .jpHl = [0xE9] ∧
      Completes (exec .jpHl s) fun t =>
       t.cpu.f = s.cpu.f ∧ SameRegsBut s t [] ∧ SameOutsideCpu s t ∧ Ends t (joinBytes s.cpu.h s.cpu.l) 4) ∧
     (∀ e : Byte, encode (.jrRel e) = [0x18, e] ∧
      Completes (exec (.jrRel e) s) fun t =>
       t.cpu.f = s.cpu.f ∧ SameRegsBut s t [] ∧ SameOutsideCpu s t ∧
         Ends t (BitVec.ofInt 16 ((s.cpu.pc.toNat : Int) + 2 + displacement e)) 12)) ∧
  ∀ (s : State) (k : Cond) (taken : Bool), taken = condHolds k s.cpu.f →
    (∀ nn : Word, encode (Instr.jpCond k nn) = [BitVec.ofNat 8 (0xC2 + 8 * codeOfCond k), loByte nn, hiByte nn] ∧
     Completes (exec (Instr.jpCond k nn) s) fun t =>
      t.cpu.f = s.cpu.f ∧ SameRegsBut s t [] ∧ SameOutsideCpu s t ∧
        Ends t (if taken then nn else s.cpu.pc + 3) (if taken then 16 else 12)) ∧
    (∀ e : Byte, encode (Instr.jrCond k e) = [BitVec.ofNat 8 (0x20 + 8 * codeOfCond k), e] ∧
     Completes (exec (Instr.jrCond k e) s) fun t =>
      t.cpu.f = s.cpu.f ∧ SameRegsBut s t [] ∧ SameOutsideCpu s t ∧
        Ends t (if taken then BitVec.ofInt 16 ((s.cpu.pc.toNat : Int) + 2 + displacement e) else s.cpu.pc + 2)
          (if taken then 12 else 8))

/-- `CALL nn` and `CALL cc,nn` push the address of the next instruction; not taken, nothing is pushed (rules R285,
R286). -/
def Obligations.CallsPushReturnAddress : Prop :=
  ∀ (s : State) (nn link : Word), link = s.cpu.pc + 3 →
    (encode (.callImm nn) = [0xCD, loByte nn, hiByte nn] ∧
     Completes (exec (.callImm nn) s) fun t =>
      TwoStores s t (s.cpu.sp - 1) (hiByte link) (s.cpu.sp - 2) (loByte link) ∧ t.cpu.sp = s.cpu.sp - 2 ∧
        t.cpu.f = s.cpu.f ∧ SameRegsButPair s t .sp ∧ Ends t nn 24) ∧
    ∀ k : Cond,
      (condHolds k s.cpu.f = true →
        encode (Instr.callCond k nn) = [BitVec.ofNat 8 (0xC4 + 8 * codeOfCond k), loByte nn, hiByte nn] ∧
       Completes (exec (Instr.callCond k nn) s) fun t =>
        TwoStores s t (s.cpu.sp - 1) (hiByte link) (s.cpu.sp - 2) (loByte link) ∧ t.cpu.sp = s.cpu.sp - 2 ∧
          t.cpu.f = s.cpu.f ∧ SameRegsButPair s t .sp ∧ Ends t nn 24) ∧
      (condHolds k s.cpu.f = false →
        encode (Instr.callCond k nn) = [BitVec.ofNat 8 (0xC4 + 8 * codeOfCond k), loByte nn, hiByte nn] ∧
       Completes (exec (Instr.callCond k nn) s) fun t =>
        t.cpu.f = s.cpu.f ∧ SameRegsBut s t [] ∧ SameOutsideCpu s t ∧ Ends t link 12)

/-- `RET`, `RET cc` and `RETI`, which also sets the latch at once (rules R287, R288, R289). -/
def Obligations.ReturnsPopPc : Prop :=
  ∀ (s : State) (target : Word), target = joinBytes (s.busRead (s.cpu.sp + 1)) (s.busRead s.cpu.sp) →
    (encode .ret = [0xC9] ∧
     Completes (exec .ret s) fun t =>
      t.cpu.sp = s.cpu.sp + 2 ∧ t.cpu.f = s.cpu.f ∧ SameRegsButPair s t .sp ∧ SameOutsideCpu s t ∧
        Ends t target 16) ∧
    (∀ k : Cond,
      (condHolds k s.cpu.f = true → encode (Instr.retCond k) = [BitVec.ofNat 8 (0xC0 + 8 * codeOfCond k)] ∧
       Completes (exec (Instr.retCond k) s) fun t =>
        t.cpu.sp = s.cpu.sp + 2 ∧ t.cpu.f = s.cpu.f ∧ SameRegsButPair s t .sp ∧ SameOutsideCpu s t ∧
          Ends t target 20) ∧
      (condHolds k s.cpu.f = false → encode (Instr.retCond k) = [BitVec.ofNat 8 (0xC0 + 8 * codeOfCond k)] ∧
       Completes (exec (Instr.retCond k) s) fun t =>
        t.cpu.f = s.cpu.f ∧ SameRegsBut s t [] ∧ SameOutsideCpu s t ∧ Ends t (s.cpu.pc + 1) 8)) ∧
    (encode .reti = [0xD9] ∧
     Completes (exec .reti s) fun t =>
      t.cpu.ime = true ∧ t.cpu.imePending = s.cpu.imePending ∧ t.cpu.halted = s.cpu.halted ∧
        t.cpu.dead = s.cpu.dead ∧ t.cpu.sp = s.cpu.sp + 2 ∧ t.cpu.f = s.cpu.f ∧
        (∀ q : Reg8, t.reg q = s.reg q) ∧ SameOutsideCpu s t ∧ Ends t target 16)

/-- `RST t`: a call of `8 * y` (rule R290). -/
def Obligations.RestartsCallFixedAddresses : Prop :=
  ∀ (s : State) (y : Fin 8) (link : Word), link = s.cpu.pc + 1 →
    encode (Instr.rst y) = [BitVec.ofNat 8 (0xC7 + 8 * y.val)] ∧
      Completes (exec (Instr.rst y) s) fun t =>
      TwoStores s t (s.cpu.sp - 1) (hiByte link) (s.cpu.sp - 2) (loByte link) ∧ t.cpu.sp = s.cpu.sp - 2 ∧
        t.cpu.f = s.cpu.f ∧ SameRegsButPair s t .sp ∧ t.cpu.pc.toNat = 8 * y.val ∧ t.cycles = 16

/-! ### CPU control -/

/-- `NOP`, `HALT` and `DI`: each changes `pc` and at most one latch (rules R310, R311, R314). -/
def Obligations.ControlInstructionsChangeOneLatch : Prop :=
  ∀ s : State,
    (encode .nop = [0x00] ∧
     Completes (exec .nop s) fun t =>
      t.cpu = { s.cpu with pc := s.cpu.pc + 1 } ∧ SameOutsideCpu s t ∧ t.cycles = 4) ∧
    (encode .halt = [0x76] ∧
     Completes (exec .halt s) fun t =>
      t.cpu = { s.cpu with pc := s.cpu.pc + 1, halted := true } ∧ SameOutsideCpu s t ∧ t.cycles = 4) ∧
    (encode .di = [0xF3] ∧
     Completes (exec .di s) fun t =>
      t.cpu = { s.cpu with pc := s.cpu.pc + 1, ime := false } ∧ SameOutsideCpu s t ∧ t.cycles = 4)

/-- `STOP` raises `Stop` with the address of its opcode byte, and an illegal opcode raises `DecodeError` under the
policy `fatal` and is a one-byte no-operation under the policy `nop`; an outcome sets `dead` and leaves
every register, `pc`, SP and everything outside the CPU, and every later step returns it (rules R313, R316). That an
outcome's state is `State.afterOutcome` is the model's reading, log entry 7. -/
def Obligations.StopAndIllegalOpcodes : Prop :=
  ∀ s : State,
    (∀ n : Byte, encode (.stop n) = [0x10, n] ∧ exec (.stop n) s = .fault (.stop s.cpu.pc)) ∧
    (∀ f : Fault, s.cpu.dead = none → (s.afterOutcome f).cpu.dead = some f ∧ (s.afterOutcome f).cpu.pc = s.cpu.pc ∧
      (∀ q : Reg8, (s.afterOutcome f).reg q = s.reg q) ∧ (s.afterOutcome f).cpu.f = s.cpu.f ∧
      (s.afterOutcome f).cpu.sp = s.cpu.sp ∧ SameOutsideCpu s (s.afterOutcome f) ∧
      step (s.afterOutcome f) = .fault f) ∧
    ∀ k : IllegalOpcode,
      encode (Instr.illegal k) = [k.byte] ∧
      (s.policy = .fatal → exec (Instr.illegal k) s = .fault (.decodeError k.byte s.cpu.pc)) ∧
      (s.policy = .nop → Completes (exec (Instr.illegal k) s) fun t =>
        t.cpu = { s.cpu with pc := s.cpu.pc + 1 } ∧ SameOutsideCpu s t ∧ t.cycles = 4)

/-! ### The interrupt controller and the CPU step -/

/-- The registers IF and IE, request and clear of one source, and the priority encoder (rules R332 to R337). -/
def Obligations.InterruptControllerAndPriorityEncoder : Prop :=
  ∀ s : State,
    s.busRead 0xFF0F = (0xE0 : Byte) ||| s.irq.if5.setWidth 8 ∧ s.busRead 0xFFFF = s.irq.ie5.setWidth 8 ∧
    (∀ v : Byte, s.busWrite 0xFF0F v = { s with irq := { s.irq with if5 := v.extractLsb' 0 5 } } ∧
      s.busWrite 0xFFFF v = { s with irq := { s.irq with ie5 := v.extractLsb' 0 5 } }) ∧
    (∀ k : IrqSource,
      (s.irq.request k).ie5 = s.irq.ie5 ∧ (s.irq.clear k).ie5 = s.irq.ie5 ∧
      ∀ j : Nat, j < 5 →
        (s.irq.request k).if5.getLsbD j = (decide (j = k.bit) || s.irq.if5.getLsbD j) ∧
        (s.irq.clear k).if5.getLsbD j = (decide (j ≠ k.bit) && s.irq.if5.getLsbD j)) ∧
    (s.irq.isPending = true ↔ ∃ j : Nat, j < 5 ∧ s.irq.ie5.getLsbD j = true ∧ s.irq.if5.getLsbD j = true) ∧
    (∀ k : IrqSource, s.irq.highestPriorityPending = some k ↔
      s.irq.ie5.getLsbD k.bit = true ∧ s.irq.if5.getLsbD k.bit = true ∧
        ∀ j : Nat, j < k.bit → ¬(s.irq.ie5.getLsbD j = true ∧ s.irq.if5.getLsbD j = true)) ∧
    (s.irq.highestPriorityPending = none ↔ s.irq.isPending = false)

/-- Interrupt service: with the latch set, the lowest source both enabled and requested is serviced at the start
of the step, whatever stands at `pc`. It pushes `pc`, clears both latches, jumps to the vector and clears that one
request bit in what the pushes left (rules R341, R342, R343, R349). -/
def Obligations.InterruptServiceSavesPcAndJumps : Prop :=
  ∀ (s pushed : State) (k : IrqSource), s.cpu.dead = none → s.cpu.ime = true →
    s.irq.ie5.getLsbD k.bit = true → s.irq.if5.getLsbD k.bit = true →
    (∀ j : Nat, j < k.bit → ¬(s.irq.ie5.getLsbD j = true ∧ s.irq.if5.getLsbD j = true)) →
    pushed = (s.busWrite (s.cpu.sp - 1) (hiByte s.cpu.pc)).busWrite (s.cpu.sp - 2) (loByte s.cpu.pc) →
    Completes s.cpuStep fun t =>
      t.cpu =
        { s.cpu with
          sp := s.cpu.sp - 2, pc := BitVec.ofNat 16 (0x0040 + 8 * k.bit), ime := false, imePending := false
          halted := false } ∧
      SameOutsideCpu { pushed with irq := pushed.irq.clear k } t ∧ t.cycles = 20 ∧
      (s.plainRam (s.cpu.sp - 1) → s.plainRam (s.cpu.sp - 2) → s.place (s.cpu.sp - 1) ≠ s.place (s.cpu.sp - 2) →
        t.busRead (s.cpu.sp - 1) = hiByte s.cpu.pc ∧ t.busRead (s.cpu.sp - 2) = loByte s.cpu.pc ∧
        ∀ x : Word, s.place x ≠ s.place (s.cpu.sp - 1) → s.place x ≠ s.place (s.cpu.sp - 2) →
          x ≠ 0xFF0F → t.busRead x = s.busRead x) ∧
      step s = .next t.advanceDevices

/-- The halted state: while no source is both enabled and requested a step returns 4 ticks and changes nothing in
the CPU; once one is, the CPU runs on: with the latch clear it executes the instruction at `pc` and leaves the
request set, with the latch set it services the interrupt (rules R311, R347). The CPU invariant rules out only a halted CPU with an EI pending, which no run
reaches. -/
def Obligations.HaltedIdlesUntilPending : Prop :=
  ∀ s : State, s.cpu.Inv → s.cpu.dead = none → s.cpu.halted = true →
    ((∀ j : Nat, j < 5 → ¬(s.irq.ie5.getLsbD j = true ∧ s.irq.if5.getLsbD j = true)) →
      s.cpuStep = .next { s with cycles := 4 } ∧
        step s = .next ((({ s with cycles := 4 } : State).timerAdvance 4).ppuAdvance 4)) ∧
    ((∃ j : Nat, j < 5 ∧ s.irq.ie5.getLsbD j = true ∧ s.irq.if5.getLsbD j = true) → s.cpu.ime = false →
      s.cpuStep = exec s.fetched { s with cpu := { s.cpu with halted := false } }) ∧
    (∀ k : IrqSource, s.irq.highestPriorityPending = some k → s.cpu.ime = true → Completes s.cpuStep fun t =>
      t.cpu.halted = false ∧ t.cpu.ime = false ∧ t.cpu.pc = BitVec.ofNat 16 (0x0040 + 8 * k.bit) ∧
        t.cpu.sp = s.cpu.sp - 2 ∧ t.cycles = 20)

/-- The EI delay: EI sets the pending bit and leaves the latch as it is; the step after it polls with the old latch, so no request is
serviced, and executes its instruction with the latch set; after `EI; DI` the latch is clear (rule R315). -/
def Obligations.EiTakesEffectAfterTheNextInstruction : Prop :=
  ∀ s : State,
    (encode .ei = [0xFB] ∧ Completes (exec .ei s) fun t =>
      t.cpu = { s.cpu with pc := s.cpu.pc + 1, imePending := true } ∧ SameOutsideCpu s t ∧ t.cycles = 4) ∧
    (s.cpu.dead = none → s.cpu.halted = false → s.cpu.ime = false → s.cpu.imePending = true →
      s.cpuStep = exec s.fetched { s with cpu := { s.cpu with ime := true, imePending := false } } ∧
      (s.fetched = .di → Completes s.cpuStep fun t => t.cpu.ime = false ∧ t.cpu.imePending = false) ∧
      (s.fetched = .nop → Completes s.cpuStep fun t => t.cpu.ime = true ∧ t.cpu.imePending = false ∧
        t.irq = s.irq ∧ t.cpu.pc = s.cpu.pc + 1))

/-- A step is total: it ends in a next state, or in one of the two outcomes, raised by STOP or by an illegal opcode
under the policy `fatal`. An outcome leaves every register, `pc` and all memory, sets `dead`, and is returned again
by every later step and every later frame (rules R29, R313, R316, R331, R345, R358). That an outcome's state is
`State.afterOutcome` is the model's reading, log entry 7; the bound of the frame loop is its choice, log entry 9. -/
def Obligations.OutcomesEndTheRun : Prop :=
  ∀ (s : State) (f : Fault),
    (∀ r : Refusal, step s ≠ .refused r) ∧
    (s.cpu.dead = some f → step s = .fault f ∧ s.afterOutcome f = s) ∧
    (step s = .fault f →
      (s.cpu.dead = some f ∨ (∃ n : Byte, s.fetched = .stop n ∧ f = .stop s.cpu.pc) ∨
        ∃ k : IllegalOpcode, s.fetched = Instr.illegal k ∧ s.policy = .fatal ∧
          f = .decodeError k.byte s.cpu.pc) ∧
      (s.afterOutcome f).cpu.dead = some f ∧ (s.afterOutcome f).cpu.pc = s.cpu.pc ∧
      (∀ q : Reg8, (s.afterOutcome f).reg q = s.reg q) ∧ (s.afterOutcome f).cpu.f = s.cpu.f ∧
      (s.afterOutcome f).cpu.sp = s.cpu.sp ∧ SameOutsideCpu s (s.afterOutcome f) ∧
      step (s.afterOutcome f) = .fault f ∧
      ∀ n : Nat, s.runOneFrame (n + 1) = .stopped s.ppu.front f (s.afterOutcome f) ∧
        (s.afterOutcome f).runOneFrame (n + 1) = .stopped s.ppu.front f (s.afterOutcome f))

/-- A step runs the decoded instruction: where no interrupt is serviced and the CPU does not idle, it executes the
instruction that the bytes at `pc` decode to, after the wake and the EI delay, and then advances the devices (rules
R113, R345, R356). -/
def Obligations.StepRunsTheDecodedInstruction : Prop :=
  ∀ (s : State) (i : Instr) (rest : List Byte), s.cpu.dead = none →
    (s.cpu.ime = false ∨ s.irq.isPending = false) → (s.cpu.halted = false ∨ s.irq.isPending = true) →
    decode [s.busRead s.cpu.pc, s.busRead (s.cpu.pc + 1), s.busRead (s.cpu.pc + 2)] = .ok (i, rest) →
    s.cpuStep = exec i s.wake.commitIme ∧
    step s =
      match exec i s.wake.commitIme with
      | .next t => .next t.advanceDevices
      | .fault f => .fault f
      | .refused r => .refused r

/-- A CPU step returns 4, 8, 12, 16, 20 or 24 ticks, and the machine step feeds exactly those to the timer and then
to the PPU; on an outcome the devices are not advanced (rule R356). -/
def Obligations.MachineStepFeedsTheDevices : Prop :=
  ∀ s : State,
    (∀ t : State, s.cpuStep = .next t → t.cycles ∈ [4, 8, 12, 16, 20, 24] ∧
      step s = .next (Nat.iterate State.ppuTick t.cycles (Nat.iterate State.timerTick t.cycles t))) ∧
    ∀ f : Fault, s.cpuStep = .fault f → step s = .fault f

/-- With the CPU halted and no source enabled no step changes the CPU, a RAM byte, the cartridge or a register that
is no counter, and every step answers a next state (rule R514). -/
def Obligations.HaltedWithNothingEnabledIsStable : Prop :=
  ∀ s : State, s.cpu.dead = none → s.cpu.halted = true → s.irq.ie5 = 0 → Completes (step s) fun t =>
    t.cpu = s.cpu ∧ t.irq.ie5 = 0 ∧ t.wram = s.wram ∧ t.hram = s.hram ∧ t.cart = s.cart ∧
      t.joypad = s.joypad ∧ t.serial = s.serial ∧ t.dma = s.dma ∧ t.policy = s.policy ∧
      t.timer.tma = s.timer.tma ∧ t.timer.tac = s.timer.tac ∧ t.ppu.vram = s.ppu.vram ∧
      t.ppu.oam = s.ppu.oam ∧ t.ppu.lcdc = s.ppu.lcdc ∧ t.ppu.statEn = s.ppu.statEn ∧ t.ppu.scy = s.ppu.scy ∧
      t.ppu.scx = s.ppu.scx ∧ t.ppu.lyc = s.ppu.lyc ∧ t.ppu.bgp = s.ppu.bgp ∧ t.ppu.obp0 = s.ppu.obp0 ∧
      t.ppu.obp1 = s.ppu.obp1 ∧ t.ppu.wy = s.ppu.wy ∧ t.ppu.wx = s.ppu.wx

/-! ### The timer -/

/-- Overflow and reload: at the tick at which TIMA would pass 0xFF it becomes 0x00; four ticks later, and not
before, it becomes the modulo and the Timer interrupt is requested. From any moment of that window the reload completes
when its ticks are over, and not before, whether or not the timer is enabled then (rules R372, R375, R377, R378). The
premise on the window is the timer part of the invariant, which every step keeps. -/
def Obligations.TimerOverflowReloadsFourTicksLater : Prop :=
  (∀ s : State, s.timer.Inv → s.timer.reloadPending = true → ∀ d : Nat, d = s.timer.reloadDelay.toNat →
    (∀ n : Nat, n < d → (s.timerAdvance n).timer.tima = s.timer.tima ∧
      (s.timerAdvance n).timer.reloadPending = true ∧ (s.timerAdvance n).irq = s.irq) ∧
    (∀ n : Nat, n ≤ d → (s.timerAdvance n).timer.timerAcc.toNat =
      s.timer.timerAcc.toNat + if s.timer.tac.getLsbD 2 then n else 0) ∧
    (s.timerAdvance d).timer.tima = s.timer.tma ∧ (s.timerAdvance d).timer.reloadPending = false ∧
      (s.timerAdvance d).irq.if5 = s.irq.if5 ||| 0b00100 ∧ (s.timerAdvance d).irq.ie5 = s.irq.ie5) ∧
  ∀ s : State, s.timer.tac.getLsbD 2 = true → s.timer.reloadPending = false → s.timer.tima = 0xFF →
    s.timer.timerAcc.toNat + 1 = timerPeriod s.timer.tac →
    (∀ n : Nat, 1 ≤ n → n ≤ 4 → (s.timerAdvance n).timer.tima = 0 ∧
      (s.timerAdvance n).timer.reloadPending = true ∧ (s.timerAdvance n).irq = s.irq) ∧
    (s.timerAdvance 5).timer.tima = s.timer.tma ∧ (s.timerAdvance 5).timer.reloadPending = false ∧
      (s.timerAdvance 5).irq.if5 = s.irq.if5 ||| 0b00100 ∧ (s.timerAdvance 5).irq.ie5 = s.irq.ie5

/-- The divider counts every tick, whatever the timer does. Enabled and short of its next overflow, TIMA counts
once a period, by the accumulator; disabled, both hold. Outside the timer only the request bit of its own source can
change (rules R371 to R374). -/
def Obligations.TimerCountsPeriodsAndDividerCountsTicks : Prop :=
  (∀ tac : BitVec 3, timerPeriod tac = [1024, 16, 64, 256].getD (tac.toNat % 4) 0) ∧
  ∀ (s : State) (n acc : Nat), acc = s.timer.timerAcc.toNat →
    (s.timerAdvance n).timer.div16 = s.timer.div16 + BitVec.ofNat 16 n ∧
    (s.timerAdvance n).timer.tma = s.timer.tma ∧ (s.timerAdvance n).timer.tac = s.timer.tac ∧
    (s.timerAdvance n).cpu = s.cpu ∧ (s.timerAdvance n).ppu = s.ppu ∧ (s.timerAdvance n).cart = s.cart ∧
    (s.timerAdvance n).wram = s.wram ∧ (s.timerAdvance n).hram = s.hram ∧
    (s.timerAdvance n).joypad = s.joypad ∧ (s.timerAdvance n).serial = s.serial ∧ (s.timerAdvance n).dma = s.dma ∧
    (s.timerAdvance n).policy = s.policy ∧ (s.timerAdvance n).irq.ie5 = s.irq.ie5 ∧
    (∀ j : Nat, j ≠ 2 → (s.timerAdvance n).irq.if5.getLsbD j = s.irq.if5.getLsbD j) ∧
    (s.timer.tac.getLsbD 2 = true → s.timer.reloadPending = false → acc < timerPeriod s.timer.tac →
      s.timer.tima.toNat + (acc + n) / timerPeriod s.timer.tac ≤ 255 →
      (s.timerAdvance n).timer.tima.toNat = s.timer.tima.toNat + (acc + n) / timerPeriod s.timer.tac ∧
      (s.timerAdvance n).timer.timerAcc.toNat = (acc + n) % timerPeriod s.timer.tac ∧
      (s.timerAdvance n).irq = s.irq) ∧
    (s.timer.tac.getLsbD 2 = false → s.timer.reloadPending = false →
      (s.timerAdvance n).timer.tima = s.timer.tima ∧ (s.timerAdvance n).timer.timerAcc = s.timer.timerAcc ∧
      (s.timerAdvance n).irq = s.irq)

/-- The four timer registers: what a read returns, and what a write does (rules R370, R379, R381, R382, R383). -/
def Obligations.TimerRegisterReadsAndWrites : Prop :=
  ∀ (s : State) (v : Byte),
    s.busRead 0xFF04 = hiByte s.timer.div16 ∧ s.busRead 0xFF05 = s.timer.tima ∧ s.busRead 0xFF06 = s.timer.tma ∧
    s.busRead 0xFF07 = (0xF8 : Byte) ||| s.timer.tac.setWidth 8 ∧
    s.busWrite 0xFF04 v = { s with timer := { s.timer with div16 := 0 } } ∧
    s.busWrite 0xFF05 v = { s with timer := { s.timer with tima := v, reloadPending := false } } ∧
    s.busWrite 0xFF06 v = { s with timer := { s.timer with tma := v } } ∧
    s.busWrite 0xFF07 v = { s with timer := { s.timer with tac := v.extractLsb' 0 3, timerAcc := 0 } }

/-! ### The PPU -/

/-- With the LCD on, each tick moves the beam one dot through the 70,224 dots of a frame, the scanline and the dot
fix the mode, VBlank is requested at dot 65,664 of each frame and the frame is complete at its end. In the machine the
requests of a tick, those of STAT too, set their bits of IF, and a tick changes nothing else outside the PPU (rules
R391, R405, R408, R409, R428, R431). -/
def Obligations.FrameCadence : Prop :=
  (∀ p q : Ppu, ∀ r : BitVec 5, p.Inv → p.lcdOn = true → p.tick = (q, r) →
    q.ly * 456 + q.dot = (p.ly * 456 + p.dot + 1) % 70224 ∧ q.dot < 456 ∧ q.lcdOn = true ∧
    q.mode = modeAt q.ly q.dot ∧
    q.frameComplete = (p.frameComplete || decide (p.ly * 456 + p.dot + 1 = 70224)) ∧
    r.getLsbD 0 = decide (p.ly * 456 + p.dot + 1 = 65664)) ∧
  (∀ s : State,
    s.ppuTick.ppu = s.ppu.tick.1 ∧
    (∀ j : Nat, s.ppuTick.irq.if5.getLsbD j = (s.irq.if5.getLsbD j || s.ppu.tick.2.getLsbD j)) ∧
    s.ppuTick.irq.ie5 = s.irq.ie5 ∧ s.ppuTick.cpu = s.cpu ∧ s.ppuTick.timer = s.timer ∧ s.ppuTick.cart = s.cart ∧
    s.ppuTick.wram = s.wram ∧ s.ppuTick.hram = s.hram ∧ s.ppuTick.joypad = s.joypad ∧
    s.ppuTick.serial = s.serial ∧ s.ppuTick.dma = s.dma ∧ s.ppuTick.policy = s.policy ∧
    s.ppuTick.cycles = s.cycles) ∧
  ∀ (s : State) (n : Nat), s.ppu.Inv → s.ppu.lcdOn = true →
    (s.ppuAdvance n).ppu.ly * 456 + (s.ppuAdvance n).ppu.dot = (s.ppu.ly * 456 + s.ppu.dot + n) % 70224 ∧
    ((s.ppuAdvance n).ppu.frameComplete = true ↔
      s.ppu.frameComplete = true ∨ 70224 ≤ s.ppu.ly * 456 + s.ppu.dot + n)

/-- STAT: what it reads, and that its interrupt is requested at the four events only, each gated by its enable
bit: entering HBlank, VBlank or OAM-scan, and the scanline becoming equal to LYC. No tick requests another
interrupt than VBlank and STAT (rules R428, R429). -/
def Obligations.StatRequestsAtFourEvents : Prop :=
  (∀ p q : Ppu, ∀ r : BitVec 5, p.Inv → p.lcdOn = true → p.tick = (q, r) →
    (r.getLsbD 1 = true ↔
      (p.mode ≠ .hblank ∧ q.mode = .hblank ∧ p.statEn.getLsbD 0 = true) ∨
      (p.mode ≠ .vblank ∧ q.mode = .vblank ∧ p.statEn.getLsbD 1 = true) ∨
      (p.mode ≠ .oamScan ∧ q.mode = .oamScan ∧ p.statEn.getLsbD 2 = true) ∨
      (q.ly ≠ p.ly ∧ q.ly = p.lyc.toNat ∧ p.statEn.getLsbD 3 = true)) ∧
    r.getLsbD 2 = false ∧ r.getLsbD 3 = false ∧ r.getLsbD 4 = false) ∧
  ∀ (s : State) (v : Byte), s.ppu.Inv →
    (s.busRead 0xFF41).toNat =
      0x80 + s.ppu.statEn.toNat * 8 + (if s.ppu.ly = s.ppu.lyc.toNat then 4 else 0) + s.ppu.mode.code.toNat ∧
    s.busWrite 0xFF41 v = { s with ppu := { s.ppu with statEn := v.extractLsb' 3 4 } }

/-- With the LCD off the PPU is frozen but for the pacing counter. A write of LCDC that switches the LCD starts the
frame over, and one that does not touches no counter (rules R406, R407). -/
def Obligations.LcdOffPacingAndLcdcWrites : Prop :=
  (∀ p : Ppu, p.lcdOn = false → p.offCounter < 70224 → p.tick =
    ({ p with
       offCounter := (p.offCounter + 1) % 70224
       frameComplete := p.frameComplete || decide (p.offCounter + 1 = 70224) }, 0)) ∧
  ∀ (s : State) (v : Byte),
    s.busRead 0xFF40 = s.ppu.lcdc ∧
    (s.ppu.lcdc.getLsbD 7 = v.getLsbD 7 → s.busWrite 0xFF40 v = { s with ppu := { s.ppu with lcdc := v } }) ∧
    (s.ppu.lcdc.getLsbD 7 = true → v.getLsbD 7 = false → s.busWrite 0xFF40 v =
      { s with ppu := { s.ppu with lcdc := v, ly := 0, dot := 0, mode := .hblank, wly := 0 } }) ∧
    (s.ppu.lcdc.getLsbD 7 = false → v.getLsbD 7 = true → s.busWrite 0xFF40 v =
      { s with ppu := { s.ppu with lcdc := v, ly := 0, dot := 0, mode := .oamScan, wly := 0 } })

/-- Each visible scanline is rendered once, at its dot 80, into its row of `back`; `front` becomes `back` when the
last one is over; the window line counter counts the scanlines that show the window, and is 0 to 143 at every tick
that renders, the only ticks that read it (rules R392, R410, R416, R433). The clauses on the window line counter are
the model's reading, log entry 5: it follows the increment of R416 where the range of R392 does not fit it. -/
def Obligations.ScanlinesAreRenderedOnceAndPublished : Prop :=
  ∀ p q : Ppu, ∀ r : BitVec 5, p.Inv → p.lcdOn = true → p.tick = (q, r) →
    q.back =
      (if p.ly < 144 ∧ p.dot = 79 then p.back.set p.ly ((List.range 160).map fun x => p.pixel p.ly x)
       else p.back) ∧
    q.front = (if p.ly = 143 ∧ p.dot = 455 then p.back else p.front) ∧
    q.wly =
      (if p.ly < 144 ∧ p.dot = 79 ∧ p.lcdc.getLsbD 5 = true ∧ p.lcdc.getLsbD 0 = true ∧ p.wy.toNat ≤ p.ly ∧
          p.wx.toNat ≤ 166 then p.wly + 1
       else if p.ly = 153 ∧ p.dot = 455 then 0 else p.wly) ∧
    (p.ly < 144 → p.dot = 79 → p.wly ≤ 143) ∧
    q.vram = p.vram ∧ q.oam = p.oam

/-- The background and window layer at a pixel, whether or not sprites are drawn: the window or the scrolled
background, its tile, its two bit planes and the palette; blank while the layer is disabled. With the sprites off the
pixel is that layer's (rules R412 to R415, R417, R421). -/
def Obligations.BackgroundAndWindowPixels : Prop :=
  ∀ (p : Ppu) (y x : Nat) (win : Bool) (px py map base idx : Nat) (t : Byte), y < 144 → x < 160 →
    win = (p.lcdc.getLsbD 5 && decide (p.wy.toNat ≤ y) && decide (p.wx.toNat ≤ 166) && decide (p.wx.toNat ≤ x + 7)) →
    px = (if win then x + 7 - p.wx.toNat else (x + p.scx.toNat) % 256) →
    py = (if win then p.wly else (y + p.scy.toNat) % 256) →
    map = (if (if win then p.lcdc.getLsbD 6 else p.lcdc.getLsbD 3) then 0x9C00 else 0x9800) →
    t = p.vram.read (map + py / 8 * 32 + px / 8 - 0x8000) →
    base =
      (if p.lcdc.getLsbD 4 then 0x8000 + 16 * t.toNat
       else if t.toNat < 128 then 0x9000 + 16 * t.toNat else 0x8800 + 16 * (t.toNat - 128)) →
    idx =
      2 * ((p.vram.read (base + 2 * (py % 8) + 1 - 0x8000)).getLsbD (7 - px % 8)).toNat +
        ((p.vram.read (base + 2 * (py % 8) - 0x8000)).getLsbD (7 - px % 8)).toNat →
    (p.lcdc.getLsbD 0 = true → (p.bgIndex y x).toNat = idx ∧ (p.bgShade y x).toNat = p.bgp.toNat / 4 ^ idx % 4) ∧
    (p.lcdc.getLsbD 0 = false → p.bgIndex y x = 0 ∧ p.bgShade y x = 0) ∧
    (p.lcdc.getLsbD 1 = false → p.pixel y x = p.bgShade y x)

/-- The sprites of a scanline: the first ten entries of OAM that cover the line, by index, in ascending order of X
and then index (rules R420, R421, R422). -/
def Obligations.SpriteSelectionAndOrder : Prop :=
  ∀ (p : Ppu) (y : Nat) (onLine : Nat → Prop),
    onLine = (fun i => i < 40 ∧ (p.oam.read (4 * i)).toNat ≤ y + 16 ∧
      y + 16 < (p.oam.read (4 * i)).toNat + if p.lcdc.getLsbD 2 then 16 else 8) →
    (p.spritesOnLine y).length ≤ 10 ∧ (p.spritesOnLine y).Nodup ∧
    (p.spritesOnLine y).Pairwise (fun i j =>
      (p.oam.read (4 * i + 1)).toNat < (p.oam.read (4 * j + 1)).toNat ∨
        ((p.oam.read (4 * i + 1)).toNat = (p.oam.read (4 * j + 1)).toNat ∧ i < j)) ∧
    (∀ i ∈ p.spritesOnLine y, onLine i) ∧
    ∀ i : Nat, onLine i → i ∉ p.spritesOnLine y →
      (p.spritesOnLine y).length = 10 ∧ ∀ j ∈ p.spritesOnLine y, j < i

/-- The colour index of a sprite at a pixel, with both flips and both heights, and the pixel: the first selected
sprite that is not transparent there decides; it shows its palette's shade unless it stands behind a background
index that is not 0. Where none does, as on a scanline that no entry covers, the background shade stays (rules R423,
R424, R425). -/
def Obligations.SpritePixelsAndPriority : Prop :=
  (∀ (palette : Byte) (k : BitVec 2), (paletteShade palette k).toNat = palette.toNat / 4 ^ k.toNat % 4) ∧
  (∀ (p : Ppu) (y x : Nat), (∀ j ∈ p.spritesOnLine y, p.spriteIndex y x j = 0) → p.pixel y x = p.bgShade y x) ∧
  ∀ (p : Ppu) (y x i top left h row col tile : Nat) (t a : Byte),
    top = (p.oam.read (4 * i)).toNat → left = (p.oam.read (4 * i + 1)).toNat → t = p.oam.read (4 * i + 2) →
    a = p.oam.read (4 * i + 3) → h = (if p.lcdc.getLsbD 2 then 16 else 8) →
    top ≤ y + 16 → y + 16 < top + h →
    row = (if a.getLsbD 6 then h - 1 - (y + 16 - top) else y + 16 - top) →
    col = (if a.getLsbD 5 then 7 - (x + 8 - left) else x + 8 - left) →
    tile = (if h = 16 then t.toNat / 2 * 2 + row / 8 else t.toNat) →
    (left ≤ x + 8 → x + 8 ≤ left + 7 → (p.spriteIndex y x i).toNat =
      2 * ((p.vram.read (16 * tile + 2 * (row % 8) + 1)).getLsbD (7 - col)).toNat +
        ((p.vram.read (16 * tile + 2 * (row % 8))).getLsbD (7 - col)).toNat) ∧
    (¬(left ≤ x + 8 ∧ x + 8 ≤ left + 7) → p.spriteIndex y x i = 0) ∧
    (p.lcdc.getLsbD 1 = true → ∀ front behind : List Nat, p.spritesOnLine y = front ++ i :: behind →
      (∀ j ∈ front, p.spriteIndex y x j = 0) → p.spriteIndex y x i ≠ 0 →
      p.pixel y x =
        if a.getLsbD 7 = true ∧ p.bgIndex y x ≠ 0 then p.bgShade y x
        else paletteShade (if a.getLsbD 4 then p.obp1 else p.obp0) (p.spriteIndex y x i))

/-! ### The bus -/

/-- The locks: VRAM in pixel-transfer, OAM in OAM-scan and pixel-transfer, while the LCD is on. A locked read
returns 0xFF and a locked write is dropped (rules R71, R72, R73). -/
def Obligations.LocksOfVramAndOam : Prop :=
  ∀ (s : State) (a : Word) (v : Byte) (on : Bool), on = s.ppu.lcdc.getLsbD 7 →
    (0x8000 ≤ a.toNat → a.toNat ≤ 0x9FFF →
      (on = true ∧ s.ppu.mode = .transfer → s.busRead a = 0xFF ∧ s.busWrite a v = s) ∧
      (¬(on = true ∧ s.ppu.mode = .transfer) → s.busRead a = s.ppu.vram.read (a.toNat - 0x8000) ∧
        s.busWrite a v = { s with ppu := { s.ppu with vram := s.ppu.vram.write (a.toNat - 0x8000) v } })) ∧
    (0xFE00 ≤ a.toNat → a.toNat ≤ 0xFE9F →
      (on = true ∧ (s.ppu.mode = .oamScan ∨ s.ppu.mode = .transfer) → s.busRead a = 0xFF ∧ s.busWrite a v = s) ∧
      (¬(on = true ∧ (s.ppu.mode = .oamScan ∨ s.ppu.mode = .transfer)) →
        s.busRead a = s.ppu.oam.read (a.toNat - 0xFE00) ∧
        s.busWrite a v = { s with ppu := { s.ppu with oam := s.ppu.oam.write (a.toNat - 0xFE00) v } }))

/-- Work RAM, its echo and high RAM are plain bytes; an address no owner claims reads 0xFF and drops writes (rules
R69, R70, R76, R78). -/
def Obligations.PlainRamEchoAndUnclaimedAddresses : Prop :=
  ∀ (s : State) (a : Word) (v : Byte) (n : Nat), n = a.toNat →
    (0xC000 ≤ n → n ≤ 0xDFFF → s.busRead a = s.wram.read (n - 0xC000) ∧
      s.busWrite a v = { s with wram := s.wram.write (n - 0xC000) v }) ∧
    (0xE000 ≤ n → n ≤ 0xFDFF → s.busRead a = s.busRead (a - 0x2000) ∧
      s.busWrite a v = s.busWrite (a - 0x2000) v) ∧
    (0xFF80 ≤ n → n ≤ 0xFFFE → s.busRead a = s.hram.read (n - 0xFF80) ∧
      s.busWrite a v = { s with hram := s.hram.write (n - 0xFF80) v }) ∧
    ((0xFEA0 ≤ n ∧ n ≤ 0xFEFF) ∨ n = 0xFF03 ∨ (0xFF08 ≤ n ∧ n ≤ 0xFF0E) ∨ (0xFF10 ≤ n ∧ n ≤ 0xFF3F) ∨
        (0xFF4C ≤ n ∧ n ≤ 0xFF7F) →
      s.busRead a = 0xFF ∧ s.busWrite a v = s)

/-- The joypad, serial and plain PPU registers: what a read returns and what a write stores (rules R41, R49 to R51,
R53, R54, R403, R481). -/
def Obligations.JoypadSerialAndPpuRegisters : Prop :=
  ∀ (s : State) (v : Byte),
    (∀ i : Nat, i < 4 → (s.busRead 0xFF00).getLsbD i =
      ((s.joypad.p1Select.getLsbD 0 || !s.joypad.buttons.getLsbD i) &&
        (s.joypad.p1Select.getLsbD 1 || !s.joypad.buttons.getLsbD (i + 4)))) ∧
    (s.busRead 0xFF00).toNat / 16 = 12 + s.joypad.p1Select.toNat ∧
    s.busWrite 0xFF00 v = { s with joypad := { s.joypad with p1Select := v.extractLsb' 4 2 } } ∧
    s.busRead 0xFF01 = s.serial.sb ∧ s.busWrite 0xFF01 v = { s with serial := { s.serial with sb := v } } ∧
    (s.busRead 0xFF02).toNat = 0x7E + 128 * s.serial.sc7.toNat + s.serial.sc0.toNat ∧
    s.busWrite 0xFF02 v = { s with serial := { s.serial with sc7 := v.getLsbD 7, sc0 := v.getLsbD 0 } } ∧
    s.busRead 0xFF42 = s.ppu.scy ∧ s.busWrite 0xFF42 v = { s with ppu := { s.ppu with scy := v } } ∧
    s.busRead 0xFF43 = s.ppu.scx ∧ s.busWrite 0xFF43 v = { s with ppu := { s.ppu with scx := v } } ∧
    (s.busRead 0xFF44 = if s.ppu.lcdc.getLsbD 7 then BitVec.ofNat 8 s.ppu.ly else 0) ∧ s.busWrite 0xFF44 v = s ∧
    s.busRead 0xFF45 = s.ppu.lyc ∧ s.busWrite 0xFF45 v = { s with ppu := { s.ppu with lyc := v } } ∧
    s.busRead 0xFF47 = s.ppu.bgp ∧ s.busWrite 0xFF47 v = { s with ppu := { s.ppu with bgp := v } } ∧
    s.busRead 0xFF48 = s.ppu.obp0 ∧ s.busWrite 0xFF48 v = { s with ppu := { s.ppu with obp0 := v } } ∧
    s.busRead 0xFF49 = s.ppu.obp1 ∧ s.busWrite 0xFF49 v = { s with ppu := { s.ppu with obp1 := v } } ∧
    s.busRead 0xFF4A = s.ppu.wy ∧ s.busWrite 0xFF4A v = { s with ppu := { s.ppu with wy := v } } ∧
    s.busRead 0xFF4B = s.ppu.wx ∧ s.busWrite 0xFF4B v = { s with ppu := { s.ppu with wx := v } }

/-- A write of DMA copies 160 bytes into OAM at once, past every lock, and changes nothing else but its own
register (rule R486). -/
def Obligations.DmaCopiesIntoOam : Prop :=
  ∀ (s t : State) (v : Byte), t = s.busWrite 0xFF46 v →
    s.busRead 0xFF46 = s.dma ∧ t.dma = v ∧ t = { s with dma := v, ppu := { s.ppu with oam := t.ppu.oam } } ∧
    t.ppu.oam.ok 160 ∧
    ∀ i src : Nat, i < 160 → src = v.toNat * 256 + i → ∀ a : Word, a = BitVec.ofNat 16 src →
      (src ≤ 0x7FFF → t.ppu.oam.read i = s.busRead a) ∧
      (0x8000 ≤ src → src ≤ 0x9FFF → t.ppu.oam.read i = s.ppu.vram.read (src - 0x8000)) ∧
      (0xA000 ≤ src → src ≤ 0xBFFF → t.ppu.oam.read i = s.busRead a) ∧
      (0xC000 ≤ src → src ≤ 0xDFFF → t.ppu.oam.read i = s.wram.read (src - 0xC000)) ∧
      (0xE000 ≤ src → t.ppu.oam.read i = s.wram.read (src - 0xE000))

/-! ### The cartridge -/

/-- A write below 0x8000 is a banking command: RAM enable, the two bank registers and the mode, and nothing else;
without a controller it does nothing (rules R455 to R459, R465). -/
def Obligations.BankingCommands : Prop :=
  ∀ (s : State) (a : Word) (v : Byte), a.toNat ≤ 0x7FFF →
    (s.cart.cartType = .none → s.busWrite a v = s) ∧
    (s.cart.cartType = .mbc1 →
      (a.toNat ≤ 0x1FFF → s.busWrite a v =
        { s with cart := { s.cart with ramEnable := decide (v.toNat % 16 = 10) } }) ∧
      (0x2000 ≤ a.toNat → a.toNat ≤ 0x3FFF → s.busWrite a v =
        { s with cart := { s.cart with bank1 := BitVec.ofNat 5 (if v.toNat % 32 = 0 then 1 else v.toNat % 32) } }) ∧
      (0x4000 ≤ a.toNat → a.toNat ≤ 0x5FFF → s.busWrite a v =
        { s with cart := { s.cart with bank2 := BitVec.ofNat 2 (v.toNat % 4) } }) ∧
      (0x6000 ≤ a.toNat → s.busWrite a v =
        { s with cart := { s.cart with bankMode := decide (v.toNat % 2 = 1) } }))

/-- The multiplexer: the bank and the byte of the image that a ROM address shows, always inside the image, and the
byte of external RAM that its window shows, 0xFF and no store while it is absent or disabled (rules R65, R460,
R461, R463, R464). -/
def Obligations.CartridgeReadsAndRamWrites : Prop :=
  ∀ (s : State) (a : Word) (v : Byte) (bank ramBank i : Nat), s.cart.Inv →
    bank =
      (if s.cart.cartType = .none then a.toNat / 0x4000 % s.cart.romBanks
       else if a.toNat ≤ 0x3FFF then (if s.cart.bankMode then s.cart.bank2.toNat * 32 else 0) % s.cart.romBanks
       else (s.cart.bank2.toNat * 32 + s.cart.bank1.toNat) % s.cart.romBanks) →
    ramBank = (if s.cart.bankMode then s.cart.bank2.toNat else 0) →
    i = (ramBank * 0x2000 + (a.toNat - 0xA000)) % s.cart.ramLen →
    (a.toNat ≤ 0x7FFF → s.busRead a = s.cart.rom.read (bank * 0x4000 + a.toNat % 0x4000) ∧
      bank * 0x4000 + a.toNat % 0x4000 < s.cart.romLen) ∧
    (0xA000 ≤ a.toNat → a.toNat ≤ 0xBFFF →
      (s.cart.ramLen = 0 ∨ s.cart.ramEnable = false → s.busRead a = 0xFF ∧ s.busWrite a v = s) ∧
      (s.cart.ramLen ≠ 0 → s.cart.ramEnable = true → i < s.cart.ramLen ∧ s.busRead a = s.cart.extRam.read i ∧
        s.busWrite a v = { s with cart := { s.cart with extRam := s.cart.extRam.write i v } }))

/-- No step changes a byte of the image or a parameter of the instance, or what the host sets (rules R59, R64). -/
def Obligations.ImageAndParametersNeverChange : Prop :=
  ∀ s t : State, step s = .next t →
    t.cart.rom = s.cart.rom ∧ t.cart.romLen = s.cart.romLen ∧ t.cart.cartType = s.cart.cartType ∧
      t.cart.hasRam = s.cart.hasRam ∧ t.cart.hasBattery = s.cart.hasBattery ∧ t.cart.romBanks = s.cart.romBanks ∧
      t.cart.ramLen = s.cart.ramLen ∧ t.policy = s.policy ∧ t.joypad.buttons = s.joypad.buttons

/-- The load of an image: the reasons it fails, and the machine it builds otherwise: the reset state with that
image, its banks, its RAM and battery, and the launch bytes in every array of RAM (rules R451, R500, R503). That a
byte the launch does not give reads 0x00 is the model's choice, log entry 1. -/
def Obligations.LoadBuildsTheResetMachine : Prop :=
  ∀ (rom : List Byte) (ram : LaunchRam) (policy : IllegalOpcodePolicy),
    (rom.length < 0x0150 → load rom ram policy = .error .missingHeader) ∧
    (0x0150 ≤ rom.length → rom.length < 0x4000 → load rom ram policy = .error .zeroBanks) ∧
    (0x4000 ≤ rom.length → 3 < (rom.getD 0x0147 0).toNat → load rom ram policy = .error .unsupportedType) ∧
    (0x4000 ≤ rom.length → (rom.getD 0x0147 0).toNat ≤ 3 → 5 < (rom.getD 0x0149 0).toNat →
      load rom ram policy = .error .badRamSizeCode) ∧
    (0x4000 ≤ rom.length → (rom.getD 0x0147 0).toNat ≤ 3 → (rom.getD 0x0149 0).toNat ≤ 5 →
      ∃ s : State, load rom ram policy = .ok s ∧ s.Inv ∧ s.policy = policy ∧
        s.cpu = State.reset.cpu ∧ s.irq = State.reset.irq ∧ s.timer = State.reset.timer ∧
        s.ppu = { State.reset.ppu with vram := s.ppu.vram, oam := s.ppu.oam } ∧
        s.joypad = State.reset.joypad ∧ s.serial = State.reset.serial ∧ s.dma = State.reset.dma ∧
        s.cart.ramEnable = false ∧ s.cart.bank1 = 1 ∧ s.cart.bank2 = 0 ∧ s.cart.bankMode = false ∧
        s.cart.romLen = rom.length ∧ s.cart.romBanks = rom.length / 0x4000 ∧
        (∀ i : Nat, i < rom.length → s.cart.rom.read i = rom.getD i 0) ∧
        (s.cart.cartType = if (rom.getD 0x0147 0).toNat = 0 then .none else .mbc1) ∧
        s.cart.hasRam = decide (2 ≤ (rom.getD 0x0147 0).toNat) ∧
        s.cart.hasBattery = decide ((rom.getD 0x0147 0).toNat = 3) ∧
        (∀ i : Nat, i < 8192 → s.ppu.vram.read i = ram.vram.getD i 0 ∧ s.wram.read i = ram.wram.getD i 0) ∧
        (∀ i : Nat, i < 160 → s.ppu.oam.read i = ram.oam.getD i 0) ∧
        (∀ i : Nat, i < 127 → s.hram.read i = ram.hram.getD i 0) ∧
        (∀ i : Nat, i < s.cart.ramLen → s.cart.extRam.read i = ram.extRam.getD i 0) ∧
        s.cart.ramLen =
          (if (rom.getD 0x0147 0).toNat < 2 then 0
           else [0, 2048, 8192, 32768, 131072, 65536].getD (rom.getD 0x0149 0).toNat 0))

/-! ### Reset -/

/-- The values the spec gives for reset (rules R58, R501). -/
def Obligations.ResetValues : Prop :=
  ∀ s : State, s = State.reset →
    s.cpu =
      { a := 0x01, f := 0xB0, b := 0x00, c := 0x13, d := 0x00, e := 0xD8, h := 0x01, l := 0x4D,
        sp := 0xFFFE, pc := 0x0100, ime := false, imePending := false, halted := false, dead := none } ∧
    s.irq = { if5 := 0b00001, ie5 := 0b00000 } ∧
    s.timer =
      { div16 := 0xABCC, tima := 0, tma := 0, tac := 0, timerAcc := 0, reloadPending := false, reloadDelay := 0 } ∧
    s.ppu.ly = 0 ∧ s.ppu.dot = 0 ∧ s.ppu.mode = .oamScan ∧ s.ppu.wly = 0 ∧ s.ppu.offCounter = 0 ∧
    s.ppu.frameComplete = false ∧ s.ppu.lcdc = 0x91 ∧ s.ppu.statEn = 0 ∧ s.ppu.scy = 0 ∧ s.ppu.scx = 0 ∧
    s.ppu.lyc = 0 ∧ s.ppu.bgp = 0xFC ∧ s.ppu.obp0 = 0xFF ∧ s.ppu.obp1 = 0xFF ∧ s.ppu.wy = 0 ∧ s.ppu.wx = 0 ∧
    s.ppu.back = List.replicate 144 (List.replicate 160 0) ∧
    s.ppu.front = List.replicate 144 (List.replicate 160 0) ∧
    s.cart.ramEnable = false ∧ s.cart.bank1 = 1 ∧ s.cart.bank2 = 0 ∧ s.cart.bankMode = false ∧
    s.joypad = { buttons := 0, p1Select := 0 } ∧ s.serial = { sb := 0x00, sc7 := false, sc0 := false } ∧
    s.dma = 0xFF

/-- The reset state satisfies the invariant. -/
def Obligations.ResetSatisfiesTheInvariant : Prop := State.reset.Inv

/-- Every step keeps the invariant: the low nibble of F, the counters and modes of the timer and the PPU, the
canonical form of every array, the shape of the framebuffers, the bank registers. -/
def Obligations.StepKeepsTheInvariant : Prop :=
  ∀ s t : State, s.Inv → step s = .next t → t.Inv

/-! ### Decoding -/

/-- Decoding what the encoder writes gives the instruction back, whatever bytes follow (rules R110, R111, R114,
R117 to R121). -/
def Obligations.DecodeOfEncodeIsTheInstruction : Prop :=
  ∀ (i : Instr) (rest : List Byte), i.wellFormed = true → decode (encode i ++ rest) = .ok (i, rest)

/-- Encoding what the decoder reads gives the bytes back, and what it reads is well-formed; it rejects a byte string
only for being too short, never for its opcode (rules R111, R113). -/
def Obligations.EncodeOfDecodeIsTheBytes : Prop :=
  ∀ bs : List Byte,
    (∀ (i : Instr) (rest : List Byte), decode bs = .ok (i, rest) →
      bs = encode i ++ rest ∧ i.wellFormed = true ∧ (encode i).length = lengthOf (bs.getD 0 0)) ∧
    (3 ≤ bs.length → ∃ (i : Instr) (rest : List Byte), decode bs = .ok (i, rest))

/-- Words written out from the encodings of the spec decode to the instructions they stand for. -/
def Obligations.DecodesWordsOfTheSpec : Prop :=
  decode [0x00] = .ok (.nop, []) ∧
  decode [0x01, 0x34, 0x12] = .ok (.ldBcImm 0x1234, []) ∧
  decode [0x41] = .ok (.ldBC, []) ∧
  decode [0x76] = .ok (.halt, []) ∧
  decode [0x86] = .ok (.addAIndHl, []) ∧
  decode [0xC3, 0x50, 0x01] = .ok (.jpImm 0x0150, []) ∧
  decode [0x18, 0xFE] = .ok (.jrRel 0xFE, []) ∧
  decode [0xE0, 0x80] = .ok (.ldhIndImmA 0x80, []) ∧
  decode [0xF5] = .ok (.pushAf, []) ∧
  decode [0xFF] = .ok (.rst38, []) ∧
  decode [0xCB, 0x7C] = .ok (.bit7H, []) ∧
  decode [0xCB, 0x37] = .ok (.swapA, []) ∧
  decode [0xDD, 0x00] = .ok (.illegalDD, [0x00]) ∧
  decode [0xC3, 0x50] = .error (.truncated 0xC3 1)
end

