-- ==== Sys2Proof/Laws/Bits.lean ====
section
/-! SUPPORT. The bit-field helpers as arithmetic: halves and joins of words, and the flags byte. -/

namespace Sys2Proof

theorem toNat_joinBytes (h l : Byte) : (joinBytes h l).toNat = h.toNat * 256 + l.toNat := by
  have app := BitVec.toNat_append h l
  simp only [joinBytes]
  rw [app, Nat.shiftLeft_eq, ← Nat.shiftLeft_eq, ← Nat.shiftLeft_add_eq_or_of_lt l.isLt, Nat.shiftLeft_eq]

theorem toNat_hiByte (w : Word) : (hiByte w).toNat = w.toNat / 256 := by
  simp [hiByte, BitVec.extractLsb'_toNat, Nat.shiftRight_eq_div_pow]
  omega

theorem toNat_loByte (w : Word) : (loByte w).toNat = w.toNat % 256 := by
  simp [loByte, BitVec.extractLsb'_toNat]

@[simp] theorem hiByte_joinBytes (h l : Byte) : hiByte (joinBytes h l) = h := by
  apply BitVec.eq_of_toNat_eq
  rw [toNat_hiByte, toNat_joinBytes]
  omega

@[simp] theorem loByte_joinBytes (h l : Byte) : loByte (joinBytes h l) = l := by
  apply BitVec.eq_of_toNat_eq
  rw [toNat_loByte, toNat_joinBytes]
  omega

@[simp] theorem joinBytes_hiByte_loByte (w : Word) : joinBytes (hiByte w) (loByte w) = w := by
  apply BitVec.eq_of_toNat_eq
  rw [toNat_joinBytes, toNat_hiByte, toNat_loByte]
  omega

namespace Machine

/-- The flags byte holds the four flags, and its low nibble is zero. -/
@[simp] theorem zeroOf_packFlags (z n h c : Bool) : zeroOf (packFlags z n h c) = z := by
  revert z n h c; decide

@[simp] theorem subtractOf_packFlags (z n h c : Bool) : subtractOf (packFlags z n h c) = n := by
  revert z n h c; decide

@[simp] theorem halfOf_packFlags (z n h c : Bool) : halfOf (packFlags z n h c) = h := by
  revert z n h c; decide

@[simp] theorem carryOf_packFlags (z n h c : Bool) : carryOf (packFlags z n h c) = c := by
  revert z n h c; decide

@[simp] theorem packFlags_low (z n h c : Bool) : packFlags z n h c &&& 0x0F = 0 := by
  revert z n h c; decide

@[simp] theorem packFlags_mask (z n h c : Bool) : packFlags z n h c &&& 0xF0 = packFlags z n h c := by
  revert z n h c; decide

/-- A masked byte has a zero low nibble, and masking keeps the four flags. -/
@[simp] theorem mask_low (v : Byte) : v &&& 0xF0 &&& 0x0F = 0 := by
  rw [BitVec.and_assoc]
  simp

@[simp] theorem zeroOf_mask (v : Byte) : zeroOf (v &&& 0xF0) = zeroOf v := by
  simp [zeroOf]

@[simp] theorem subtractOf_mask (v : Byte) : subtractOf (v &&& 0xF0) = subtractOf v := by
  simp [subtractOf]

@[simp] theorem halfOf_mask (v : Byte) : halfOf (v &&& 0xF0) = halfOf v := by
  simp [halfOf]

@[simp] theorem carryOf_mask (v : Byte) : carryOf (v &&& 0xF0) = carryOf v := by
  simp [carryOf]

end Machine

end Sys2Proof
end

