-- ==== Sys2Proof/Laws/Memory.lean ====
section
/-! SUPPORT. One array of bytes: reads after writes, and the canonical form that every operation keeps. -/

namespace Sys2Proof.Machine

@[simp] theorem Memory.read_consByte_same (i : Nat) (v : Byte) (m : Memory)
    (h : ∀ x ∈ m, i < x.1) : (Memory.consByte i v m).read i = v := by
  unfold Memory.consByte
  split
  next hv =>
    subst hv
    induction m with
    | nil => rfl
    | cons x m ih =>
      have hx := h x List.mem_cons_self
      simp only [Memory.read, if_neg (by omega : ¬x.1 = i)]
      exact ih (fun y hy => h y (List.mem_cons_of_mem _ hy))
  next => simp [Memory.read]

theorem Memory.read_consByte_ne {i j : Nat} (v : Byte) (m : Memory) (h : i ≠ j) :
    (Memory.consByte i v m).read j = m.read j := by
  unfold Memory.consByte
  split
  · rfl
  · simp [Memory.read, h]

/-- Below the least listed offset an array reads as unlisted. -/
theorem Memory.read_before {m : Memory} {i : Nat} (h : ∀ x ∈ m, i < x.1) : m.read i = Config.unlistedByte := by
  induction m with
  | nil => rfl
  | cons x m ih =>
    have hx := h x List.mem_cons_self
    simp only [Memory.read, if_neg (by omega : ¬x.1 = i)]
    exact ih (fun y hy => h y (List.mem_cons_of_mem _ hy))

@[simp] theorem Memory.read_unlist_same (m : Memory) (i : Nat) : (m.unlist i).read i = Config.unlistedByte := by
  induction m with
  | nil => rfl
  | cons x m ih =>
    by_cases h : x.1 = i
    · simpa [Memory.unlist, h] using ih
    · simpa [Memory.unlist, h, Memory.read] using ih

theorem Memory.read_unlist_ne (m : Memory) {i j : Nat} (h : j ≠ i) : (m.unlist i).read j = m.read j := by
  induction m with
  | nil => rfl
  | cons x m ih =>
    by_cases hx : x.1 = i
    · have : x.1 ≠ j := by omega
      simpa [Memory.unlist, hx, Memory.read, Ne.symm h] using ih
    · have := ih
      simp only [Memory.unlist] at this
      simp [Memory.unlist, hx, Memory.read, this]

theorem Memory.read_enlist_same {m : Memory} {i : Nat} (v : Byte) (h : ∀ x ∈ m, x.1 ≠ i) :
    (m.enlist i v).read i = v := by
  induction m with
  | nil => simp [Memory.enlist, Memory.read]
  | cons x m ih =>
    unfold Memory.enlist
    split
    · simp [Memory.read]
    · simp only [Memory.read, if_neg (h x List.mem_cons_self)]
      exact ih (fun y hy => h y (List.mem_cons_of_mem _ hy))

theorem Memory.read_enlist_ne (m : Memory) {i j : Nat} (v : Byte) (h : j ≠ i) :
    (m.enlist i v).read j = m.read j := by
  induction m with
  | nil => simp [Memory.enlist, Memory.read, Ne.symm h]
  | cons x m ih =>
    unfold Memory.enlist
    split
    · simp [Memory.read, Ne.symm h]
    · simp only [Memory.read, ih]

theorem Memory.not_mem_unlist {m : Memory} {i : Nat} {x : Host.Cell} (h : x ∈ m.unlist i) : x.1 ≠ i := by
  simpa [Memory.unlist] using (List.mem_filter.1 h).2

/-- The byte written is the byte read. -/
@[simp] theorem Memory.read_write_same (m : Memory) (i : Nat) (v : Byte) : (m.write i v).read i = v := by
  unfold Memory.write
  split
  next h => rw [Memory.read_unlist_same, h]
  next => exact Memory.read_enlist_same v (fun x hx => Memory.not_mem_unlist hx)

/-- Every other byte stays. -/
theorem Memory.read_write_ne (m : Memory) {i j : Nat} (v : Byte) (h : j ≠ i) :
    (m.write i v).read j = m.read j := by
  unfold Memory.write
  split
  · exact Memory.read_unlist_ne m h
  · rw [Memory.read_enlist_ne _ v h, Memory.read_unlist_ne m h]

theorem Memory.mem_consByte {i : Nat} {v : Byte} {m : Memory} {x : Host.Cell}
    (h : x ∈ Memory.consByte i v m) : x = (i, v) ∨ x ∈ m := by
  unfold Memory.consByte at h
  split at h
  · exact .inr h
  · simpa using h

theorem Memory.mem_enlist {m : Memory} {i : Nat} {v : Byte} {x : Host.Cell} (h : x ∈ m.enlist i v) :
    x = (i, v) ∨ x ∈ m := by
  induction m with
  | nil => simpa [Memory.enlist] using h
  | cons y m ih =>
    unfold Memory.enlist at h
    split at h
    · exact List.mem_cons.1 h
    · rcases List.mem_cons.1 h with rfl | h
      · exact .inr List.mem_cons_self
      · exact (ih h).imp_right (List.mem_cons_of_mem _)

theorem Memory.mem_write {m : Memory} {i : Nat} {v : Byte} {x : Host.Cell} (h : x ∈ m.write i v) :
    x = (i, v) ∨ x ∈ m := by
  unfold Memory.write at h
  split at h
  · exact .inr (List.mem_filter.1 h).1
  · exact (Memory.mem_enlist h).imp_right (fun h => (List.mem_filter.1 h).1)

theorem Memory.wf_consByte {i : Nat} {v : Byte} {m : Memory} (h : m.wf) (hi : ∀ x ∈ m, i < x.1) :
    (Memory.consByte i v m).wf := by
  unfold Memory.consByte
  split
  · exact h
  · rename_i hv
    refine ⟨List.pairwise_cons.2 ⟨hi, h.1⟩, ?_⟩
    intro x hx
    rcases List.mem_cons.1 hx with rfl | hx
    · exact hv
    · exact h.2 x hx

theorem Memory.wf_unlist {m : Memory} (h : m.wf) (i : Nat) : (m.unlist i).wf :=
  ⟨h.1.filter _, fun x hx => h.2 x (List.mem_filter.1 hx).1⟩

theorem Memory.wf_enlist {m : Memory} (h : m.wf) {i : Nat} {v : Byte} (hv : v ≠ Config.unlistedByte)
    (hi : ∀ x ∈ m, x.1 ≠ i) : (m.enlist i v).wf := by
  refine ⟨?_, fun x hx => ?_⟩
  · have hp := h.1
    clear h
    induction m with
    | nil => simp [Memory.enlist]
    | cons y m ih =>
      have hc := List.pairwise_cons.1 hp
      have hy := hi y List.mem_cons_self
      unfold Memory.enlist
      split
      · rename_i hlt
        refine List.pairwise_cons.2 ⟨?_, hp⟩
        intro x hx
        rcases List.mem_cons.1 hx with rfl | hx
        · exact hlt
        · exact Nat.lt_trans hlt (hc.1 x hx)
      · refine List.pairwise_cons.2 ⟨?_, ih (fun x hx => hi x (List.mem_cons_of_mem _ hx)) hc.2⟩
        intro x hx
        rcases Memory.mem_enlist hx with rfl | hx
        · simp; omega
        · exact hc.1 x hx
  · rcases Memory.mem_enlist hx with rfl | hx
    · exact hv
    · exact h.2 x hx

/-- A write keeps the canonical form. -/
theorem Memory.wf_write {m : Memory} (h : m.wf) (i : Nat) (v : Byte) : (m.write i v).wf := by
  unfold Memory.write
  split
  · exact Memory.wf_unlist h i
  · rename_i hv
    exact Memory.wf_enlist (Memory.wf_unlist h i) hv (fun x hx => Memory.not_mem_unlist hx)

theorem Memory.below_write {m : Memory} {size : Nat} (h : m.below size) {i : Nat} (hi : i < size) (v : Byte) :
    (m.write i v).below size := by
  intro x hx
  rcases Memory.mem_write hx with rfl | hx
  · exact hi
  · exact h x hx

/-- A write inside an array keeps it in order. -/
theorem Memory.ok_write {m : Memory} {size : Nat} (h : m.ok size) {i : Nat} (hi : i < size) (v : Byte) :
    (m.write i v).ok size :=
  ⟨Memory.wf_write h.1 i v, Memory.below_write h.2 hi v⟩

theorem Memory.ofBytesAt_range {bs : List Byte} {base : Nat} {x : Host.Cell}
    (h : x ∈ Memory.ofBytesAt base bs) : base ≤ x.1 ∧ x.1 < base + bs.length := by
  induction bs generalizing base with
  | nil => simp [Memory.ofBytesAt] at h
  | cons v bs ih =>
    rcases Memory.mem_consByte h with rfl | h
    · simp
    · have := ih h
      simp
      omega

theorem Memory.wf_ofBytesAt (bs : List Byte) (base : Nat) : (Memory.ofBytesAt base bs).wf := by
  induction bs generalizing base with
  | nil => exact ⟨List.Pairwise.nil, by simp [Memory.ofBytesAt]⟩
  | cons v bs ih =>
    refine Memory.wf_consByte (ih (base + 1)) ?_
    intro x hx
    have := Memory.ofBytesAt_range hx
    omega

/-- An array made of bytes is in order. -/
theorem Memory.ok_ofBytes (bs : List Byte) : (Memory.ofBytes bs).ok bs.length := by
  refine ⟨Memory.wf_ofBytesAt bs 0, ?_⟩
  intro x hx
  have := Memory.ofBytesAt_range hx
  omega

theorem Memory.read_ofBytesAt (bs : List Byte) (base i : Nat) :
    (Memory.ofBytesAt base bs).read (base + i) = bs.getD i Config.unlistedByte := by
  induction bs generalizing base i with
  | nil => rfl
  | cons v bs ih =>
    cases i with
    | zero =>
      rw [Nat.add_zero]
      refine (Memory.read_consByte_same base v _ ?_).trans rfl
      intro x hx
      have := Memory.ofBytesAt_range hx
      omega
    | succ i =>
      have := ih (base + 1) i
      rw [show base + (i + 1) = base + 1 + i by omega]
      exact (Memory.read_consByte_ne v _ (by omega)).trans this

/-- An array made of bytes reads as those bytes. -/
theorem Memory.read_ofBytes (bs : List Byte) (i : Nat) :
    (Memory.ofBytes bs).read i = bs.getD i Config.unlistedByte := by
  simpa [Memory.ofBytes] using Memory.read_ofBytesAt bs 0 i

theorem Memory.ok_mono {m : Memory} {n k : Nat} (h : m.ok n) (hnk : n ≤ k) : m.ok k :=
  ⟨h.1, fun x hx => Nat.lt_of_lt_of_le (h.2 x hx) hnk⟩

theorem Memory.ok_ofBytes_take (bs : List Byte) (n : Nat) : (Memory.ofBytes (bs.take n)).ok n :=
  Memory.ok_mono (Memory.ok_ofBytes _) (by simp)

/-- In canonical form, arrays that read the same are the same data. -/
theorem Memory.eq_of_read_eq {m k : Memory} (hm : m.wf) (hk : k.wf) (h : ∀ i, m.read i = k.read i) : m = k := by
  induction m generalizing k with
  | nil =>
    cases k with
    | nil => rfl
    | cons y k =>
      have := h y.1
      simp only [Memory.read, if_true] at this
      exact absurd this.symm (hk.2 y List.mem_cons_self)
  | cons x m ih =>
    have hmp := List.pairwise_cons.1 hm.1
    cases k with
    | nil =>
      have := h x.1
      simp only [Memory.read, if_true] at this
      exact absurd this (hm.2 x List.mem_cons_self)
    | cons y k =>
      have hkp := List.pairwise_cons.1 hk.1
      have hx := h x.1
      have hy := h y.1
      simp only [Memory.read, if_true] at hx hy
      have key : x.1 = y.1 := by
        rcases Nat.lt_trichotomy x.1 y.1 with hlt | heq | hgt
        · rw [if_neg (by omega), Memory.read_before (fun z hz => Nat.lt_trans hlt (hkp.1 z hz))] at hx
          exact absurd hx (hm.2 x List.mem_cons_self)
        · exact heq
        · rw [if_neg (by omega), Memory.read_before (fun z hz => Nat.lt_trans hgt (hmp.1 z hz))] at hy
          exact absurd hy.symm (hk.2 y List.mem_cons_self)
      rw [if_pos key.symm] at hx
      have hxy : x = y := Prod.ext key hx
      subst hxy
      congr 1
      refine ih ⟨hmp.2, fun z hz => hm.2 z (List.mem_cons_of_mem _ hz)⟩
        ⟨hkp.2, fun z hz => hk.2 z (List.mem_cons_of_mem _ hz)⟩ ?_
      intro i
      by_cases hi : x.1 = i
      · subst hi
        rw [Memory.read_before hmp.1, Memory.read_before hkp.1]
      · have := h i
        simpa [Memory.read, hi] using this

end Sys2Proof.Machine
end

