-- ==== Sys2Proof/Laws/State.lean ====
section
/-! SUPPORT. One lemma for each field of the state and each update of it, true by unfolding, so that no later
proof unfolds a record update. -/

namespace Sys2Proof.Machine

/-! ### Registers after a write of a register -/

@[simp] theorem reg_putReg_same (s : State) (r : Reg8) (v : Byte) : (s.putReg r v).reg r = v := by
  cases r <;> rfl

theorem reg_putReg_ne (s : State) {r q : Reg8} (v : Byte) (h : q ≠ r) : (s.putReg r v).reg q = s.reg q := by
  cases r <;> cases q <;> first | rfl | exact absurd rfl h

theorem reg_putReg (s : State) (r q : Reg8) (v : Byte) :
    (s.putReg r v).reg q = if q = r then v else s.reg q := by
  cases r <;> cases q <;> rfl

/-! ### After `putReg` -/

@[simp] theorem putReg_f (s : State) (r : Reg8) (v : Byte) : (s.putReg r v).cpu.f = s.cpu.f := by cases r <;> rfl
@[simp] theorem putReg_sp (s : State) (r : Reg8) (v : Byte) : (s.putReg r v).cpu.sp = s.cpu.sp := by cases r <;> rfl
@[simp] theorem putReg_pc (s : State) (r : Reg8) (v : Byte) : (s.putReg r v).cpu.pc = s.cpu.pc := by cases r <;> rfl
@[simp] theorem putReg_ime (s : State) (r : Reg8) (v : Byte) : (s.putReg r v).cpu.ime = s.cpu.ime := by cases r <;> rfl
@[simp] theorem putReg_imePending (s : State) (r : Reg8) (v : Byte) : (s.putReg r v).cpu.imePending = s.cpu.imePending := by cases r <;> rfl
@[simp] theorem putReg_halted (s : State) (r : Reg8) (v : Byte) : (s.putReg r v).cpu.halted = s.cpu.halted := by cases r <;> rfl
@[simp] theorem putReg_dead (s : State) (r : Reg8) (v : Byte) : (s.putReg r v).cpu.dead = s.cpu.dead := by cases r <;> rfl
@[simp] theorem putReg_irq (s : State) (r : Reg8) (v : Byte) : (s.putReg r v).irq = s.irq := by cases r <;> rfl
@[simp] theorem putReg_timer (s : State) (r : Reg8) (v : Byte) : (s.putReg r v).timer = s.timer := by cases r <;> rfl
@[simp] theorem putReg_ppu (s : State) (r : Reg8) (v : Byte) : (s.putReg r v).ppu = s.ppu := by cases r <;> rfl
@[simp] theorem putReg_cart (s : State) (r : Reg8) (v : Byte) : (s.putReg r v).cart = s.cart := by cases r <;> rfl
@[simp] theorem putReg_wram (s : State) (r : Reg8) (v : Byte) : (s.putReg r v).wram = s.wram := by cases r <;> rfl
@[simp] theorem putReg_hram (s : State) (r : Reg8) (v : Byte) : (s.putReg r v).hram = s.hram := by cases r <;> rfl
@[simp] theorem putReg_joypad (s : State) (r : Reg8) (v : Byte) : (s.putReg r v).joypad = s.joypad := by cases r <;> rfl
@[simp] theorem putReg_serial (s : State) (r : Reg8) (v : Byte) : (s.putReg r v).serial = s.serial := by cases r <;> rfl
@[simp] theorem putReg_dma (s : State) (r : Reg8) (v : Byte) : (s.putReg r v).dma = s.dma := by cases r <;> rfl
@[simp] theorem putReg_policy (s : State) (r : Reg8) (v : Byte) : (s.putReg r v).policy = s.policy := by cases r <;> rfl
@[simp] theorem putReg_cycles (s : State) (r : Reg8) (v : Byte) : (s.putReg r v).cycles = s.cycles := by cases r <;> rfl

/-! ### After `putF` -/

@[simp] theorem putF_f (s : State) (v : Byte) : (s.putF v).cpu.f = v &&& 0xF0 := by rfl
@[simp] theorem putF_sp (s : State) (v : Byte) : (s.putF v).cpu.sp = s.cpu.sp := by rfl
@[simp] theorem putF_pc (s : State) (v : Byte) : (s.putF v).cpu.pc = s.cpu.pc := by rfl
@[simp] theorem putF_ime (s : State) (v : Byte) : (s.putF v).cpu.ime = s.cpu.ime := by rfl
@[simp] theorem putF_imePending (s : State) (v : Byte) : (s.putF v).cpu.imePending = s.cpu.imePending := by rfl
@[simp] theorem putF_halted (s : State) (v : Byte) : (s.putF v).cpu.halted = s.cpu.halted := by rfl
@[simp] theorem putF_dead (s : State) (v : Byte) : (s.putF v).cpu.dead = s.cpu.dead := by rfl
@[simp] theorem putF_reg_b (s : State) (v : Byte) : (s.putF v).cpu.b = s.cpu.b := by rfl
@[simp] theorem putF_reg_c (s : State) (v : Byte) : (s.putF v).cpu.c = s.cpu.c := by rfl
@[simp] theorem putF_reg_d (s : State) (v : Byte) : (s.putF v).cpu.d = s.cpu.d := by rfl
@[simp] theorem putF_reg_e (s : State) (v : Byte) : (s.putF v).cpu.e = s.cpu.e := by rfl
@[simp] theorem putF_reg_h (s : State) (v : Byte) : (s.putF v).cpu.h = s.cpu.h := by rfl
@[simp] theorem putF_reg_l (s : State) (v : Byte) : (s.putF v).cpu.l = s.cpu.l := by rfl
@[simp] theorem putF_reg_a (s : State) (v : Byte) : (s.putF v).cpu.a = s.cpu.a := by rfl
@[simp] theorem putF_reg (s : State) (v : Byte) (q : Reg8) : (s.putF v).reg q = s.reg q := by cases q <;> rfl
@[simp] theorem putF_bc (s : State) (v : Byte) : (s.putF v).bc = s.bc := by rfl
@[simp] theorem putF_de (s : State) (v : Byte) : (s.putF v).de = s.de := by rfl
@[simp] theorem putF_hl (s : State) (v : Byte) : (s.putF v).hl = s.hl := by rfl
@[simp] theorem putF_irq (s : State) (v : Byte) : (s.putF v).irq = s.irq := by rfl
@[simp] theorem putF_timer (s : State) (v : Byte) : (s.putF v).timer = s.timer := by rfl
@[simp] theorem putF_ppu (s : State) (v : Byte) : (s.putF v).ppu = s.ppu := by rfl
@[simp] theorem putF_cart (s : State) (v : Byte) : (s.putF v).cart = s.cart := by rfl
@[simp] theorem putF_wram (s : State) (v : Byte) : (s.putF v).wram = s.wram := by rfl
@[simp] theorem putF_hram (s : State) (v : Byte) : (s.putF v).hram = s.hram := by rfl
@[simp] theorem putF_joypad (s : State) (v : Byte) : (s.putF v).joypad = s.joypad := by rfl
@[simp] theorem putF_serial (s : State) (v : Byte) : (s.putF v).serial = s.serial := by rfl
@[simp] theorem putF_dma (s : State) (v : Byte) : (s.putF v).dma = s.dma := by rfl
@[simp] theorem putF_policy (s : State) (v : Byte) : (s.putF v).policy = s.policy := by rfl
@[simp] theorem putF_cycles (s : State) (v : Byte) : (s.putF v).cycles = s.cycles := by rfl

/-! ### After `putSp` -/

@[simp] theorem putSp_f (s : State) (v : Word) : (s.putSp v).cpu.f = s.cpu.f := by rfl
@[simp] theorem putSp_sp (s : State) (v : Word) : (s.putSp v).cpu.sp = v := by rfl
@[simp] theorem putSp_pc (s : State) (v : Word) : (s.putSp v).cpu.pc = s.cpu.pc := by rfl
@[simp] theorem putSp_ime (s : State) (v : Word) : (s.putSp v).cpu.ime = s.cpu.ime := by rfl
@[simp] theorem putSp_imePending (s : State) (v : Word) : (s.putSp v).cpu.imePending = s.cpu.imePending := by rfl
@[simp] theorem putSp_halted (s : State) (v : Word) : (s.putSp v).cpu.halted = s.cpu.halted := by rfl
@[simp] theorem putSp_dead (s : State) (v : Word) : (s.putSp v).cpu.dead = s.cpu.dead := by rfl
@[simp] theorem putSp_reg_b (s : State) (v : Word) : (s.putSp v).cpu.b = s.cpu.b := by rfl
@[simp] theorem putSp_reg_c (s : State) (v : Word) : (s.putSp v).cpu.c = s.cpu.c := by rfl
@[simp] theorem putSp_reg_d (s : State) (v : Word) : (s.putSp v).cpu.d = s.cpu.d := by rfl
@[simp] theorem putSp_reg_e (s : State) (v : Word) : (s.putSp v).cpu.e = s.cpu.e := by rfl
@[simp] theorem putSp_reg_h (s : State) (v : Word) : (s.putSp v).cpu.h = s.cpu.h := by rfl
@[simp] theorem putSp_reg_l (s : State) (v : Word) : (s.putSp v).cpu.l = s.cpu.l := by rfl
@[simp] theorem putSp_reg_a (s : State) (v : Word) : (s.putSp v).cpu.a = s.cpu.a := by rfl
@[simp] theorem putSp_reg (s : State) (v : Word) (q : Reg8) : (s.putSp v).reg q = s.reg q := by cases q <;> rfl
@[simp] theorem putSp_bc (s : State) (v : Word) : (s.putSp v).bc = s.bc := by rfl
@[simp] theorem putSp_de (s : State) (v : Word) : (s.putSp v).de = s.de := by rfl
@[simp] theorem putSp_hl (s : State) (v : Word) : (s.putSp v).hl = s.hl := by rfl
@[simp] theorem putSp_irq (s : State) (v : Word) : (s.putSp v).irq = s.irq := by rfl
@[simp] theorem putSp_timer (s : State) (v : Word) : (s.putSp v).timer = s.timer := by rfl
@[simp] theorem putSp_ppu (s : State) (v : Word) : (s.putSp v).ppu = s.ppu := by rfl
@[simp] theorem putSp_cart (s : State) (v : Word) : (s.putSp v).cart = s.cart := by rfl
@[simp] theorem putSp_wram (s : State) (v : Word) : (s.putSp v).wram = s.wram := by rfl
@[simp] theorem putSp_hram (s : State) (v : Word) : (s.putSp v).hram = s.hram := by rfl
@[simp] theorem putSp_joypad (s : State) (v : Word) : (s.putSp v).joypad = s.joypad := by rfl
@[simp] theorem putSp_serial (s : State) (v : Word) : (s.putSp v).serial = s.serial := by rfl
@[simp] theorem putSp_dma (s : State) (v : Word) : (s.putSp v).dma = s.dma := by rfl
@[simp] theorem putSp_policy (s : State) (v : Word) : (s.putSp v).policy = s.policy := by rfl
@[simp] theorem putSp_cycles (s : State) (v : Word) : (s.putSp v).cycles = s.cycles := by rfl

/-! ### After `putPc` -/

@[simp] theorem putPc_f (s : State) (v : Word) : (s.putPc v).cpu.f = s.cpu.f := by rfl
@[simp] theorem putPc_sp (s : State) (v : Word) : (s.putPc v).cpu.sp = s.cpu.sp := by rfl
@[simp] theorem putPc_pc (s : State) (v : Word) : (s.putPc v).cpu.pc = v := by rfl
@[simp] theorem putPc_ime (s : State) (v : Word) : (s.putPc v).cpu.ime = s.cpu.ime := by rfl
@[simp] theorem putPc_imePending (s : State) (v : Word) : (s.putPc v).cpu.imePending = s.cpu.imePending := by rfl
@[simp] theorem putPc_halted (s : State) (v : Word) : (s.putPc v).cpu.halted = s.cpu.halted := by rfl
@[simp] theorem putPc_dead (s : State) (v : Word) : (s.putPc v).cpu.dead = s.cpu.dead := by rfl
@[simp] theorem putPc_reg_b (s : State) (v : Word) : (s.putPc v).cpu.b = s.cpu.b := by rfl
@[simp] theorem putPc_reg_c (s : State) (v : Word) : (s.putPc v).cpu.c = s.cpu.c := by rfl
@[simp] theorem putPc_reg_d (s : State) (v : Word) : (s.putPc v).cpu.d = s.cpu.d := by rfl
@[simp] theorem putPc_reg_e (s : State) (v : Word) : (s.putPc v).cpu.e = s.cpu.e := by rfl
@[simp] theorem putPc_reg_h (s : State) (v : Word) : (s.putPc v).cpu.h = s.cpu.h := by rfl
@[simp] theorem putPc_reg_l (s : State) (v : Word) : (s.putPc v).cpu.l = s.cpu.l := by rfl
@[simp] theorem putPc_reg_a (s : State) (v : Word) : (s.putPc v).cpu.a = s.cpu.a := by rfl
@[simp] theorem putPc_reg (s : State) (v : Word) (q : Reg8) : (s.putPc v).reg q = s.reg q := by cases q <;> rfl
@[simp] theorem putPc_bc (s : State) (v : Word) : (s.putPc v).bc = s.bc := by rfl
@[simp] theorem putPc_de (s : State) (v : Word) : (s.putPc v).de = s.de := by rfl
@[simp] theorem putPc_hl (s : State) (v : Word) : (s.putPc v).hl = s.hl := by rfl
@[simp] theorem putPc_irq (s : State) (v : Word) : (s.putPc v).irq = s.irq := by rfl
@[simp] theorem putPc_timer (s : State) (v : Word) : (s.putPc v).timer = s.timer := by rfl
@[simp] theorem putPc_ppu (s : State) (v : Word) : (s.putPc v).ppu = s.ppu := by rfl
@[simp] theorem putPc_cart (s : State) (v : Word) : (s.putPc v).cart = s.cart := by rfl
@[simp] theorem putPc_wram (s : State) (v : Word) : (s.putPc v).wram = s.wram := by rfl
@[simp] theorem putPc_hram (s : State) (v : Word) : (s.putPc v).hram = s.hram := by rfl
@[simp] theorem putPc_joypad (s : State) (v : Word) : (s.putPc v).joypad = s.joypad := by rfl
@[simp] theorem putPc_serial (s : State) (v : Word) : (s.putPc v).serial = s.serial := by rfl
@[simp] theorem putPc_dma (s : State) (v : Word) : (s.putPc v).dma = s.dma := by rfl
@[simp] theorem putPc_policy (s : State) (v : Word) : (s.putPc v).policy = s.policy := by rfl
@[simp] theorem putPc_cycles (s : State) (v : Word) : (s.putPc v).cycles = s.cycles := by rfl

/-! ### After `advance` -/

@[simp] theorem advance_f (s : State) (v : Nat) : (s.advance v).cpu.f = s.cpu.f := by rfl
@[simp] theorem advance_sp (s : State) (v : Nat) : (s.advance v).cpu.sp = s.cpu.sp := by rfl
@[simp] theorem advance_pc (s : State) (v : Nat) : (s.advance v).cpu.pc = s.cpu.pc + BitVec.ofNat 16 v := by rfl
@[simp] theorem advance_ime (s : State) (v : Nat) : (s.advance v).cpu.ime = s.cpu.ime := by rfl
@[simp] theorem advance_imePending (s : State) (v : Nat) : (s.advance v).cpu.imePending = s.cpu.imePending := by rfl
@[simp] theorem advance_halted (s : State) (v : Nat) : (s.advance v).cpu.halted = s.cpu.halted := by rfl
@[simp] theorem advance_dead (s : State) (v : Nat) : (s.advance v).cpu.dead = s.cpu.dead := by rfl
@[simp] theorem advance_reg_b (s : State) (v : Nat) : (s.advance v).cpu.b = s.cpu.b := by rfl
@[simp] theorem advance_reg_c (s : State) (v : Nat) : (s.advance v).cpu.c = s.cpu.c := by rfl
@[simp] theorem advance_reg_d (s : State) (v : Nat) : (s.advance v).cpu.d = s.cpu.d := by rfl
@[simp] theorem advance_reg_e (s : State) (v : Nat) : (s.advance v).cpu.e = s.cpu.e := by rfl
@[simp] theorem advance_reg_h (s : State) (v : Nat) : (s.advance v).cpu.h = s.cpu.h := by rfl
@[simp] theorem advance_reg_l (s : State) (v : Nat) : (s.advance v).cpu.l = s.cpu.l := by rfl
@[simp] theorem advance_reg_a (s : State) (v : Nat) : (s.advance v).cpu.a = s.cpu.a := by rfl
@[simp] theorem advance_reg (s : State) (v : Nat) (q : Reg8) : (s.advance v).reg q = s.reg q := by cases q <;> rfl
@[simp] theorem advance_bc (s : State) (v : Nat) : (s.advance v).bc = s.bc := by rfl
@[simp] theorem advance_de (s : State) (v : Nat) : (s.advance v).de = s.de := by rfl
@[simp] theorem advance_hl (s : State) (v : Nat) : (s.advance v).hl = s.hl := by rfl
@[simp] theorem advance_irq (s : State) (v : Nat) : (s.advance v).irq = s.irq := by rfl
@[simp] theorem advance_timer (s : State) (v : Nat) : (s.advance v).timer = s.timer := by rfl
@[simp] theorem advance_ppu (s : State) (v : Nat) : (s.advance v).ppu = s.ppu := by rfl
@[simp] theorem advance_cart (s : State) (v : Nat) : (s.advance v).cart = s.cart := by rfl
@[simp] theorem advance_wram (s : State) (v : Nat) : (s.advance v).wram = s.wram := by rfl
@[simp] theorem advance_hram (s : State) (v : Nat) : (s.advance v).hram = s.hram := by rfl
@[simp] theorem advance_joypad (s : State) (v : Nat) : (s.advance v).joypad = s.joypad := by rfl
@[simp] theorem advance_serial (s : State) (v : Nat) : (s.advance v).serial = s.serial := by rfl
@[simp] theorem advance_dma (s : State) (v : Nat) : (s.advance v).dma = s.dma := by rfl
@[simp] theorem advance_policy (s : State) (v : Nat) : (s.advance v).policy = s.policy := by rfl
@[simp] theorem advance_cycles (s : State) (v : Nat) : (s.advance v).cycles = s.cycles := by rfl

/-! ### After `returning` -/

@[simp] theorem returning_f (s : State) (v : Nat) : (s.returning v).cpu.f = s.cpu.f := by rfl
@[simp] theorem returning_sp (s : State) (v : Nat) : (s.returning v).cpu.sp = s.cpu.sp := by rfl
@[simp] theorem returning_pc (s : State) (v : Nat) : (s.returning v).cpu.pc = s.cpu.pc := by rfl
@[simp] theorem returning_ime (s : State) (v : Nat) : (s.returning v).cpu.ime = s.cpu.ime := by rfl
@[simp] theorem returning_imePending (s : State) (v : Nat) : (s.returning v).cpu.imePending = s.cpu.imePending := by rfl
@[simp] theorem returning_halted (s : State) (v : Nat) : (s.returning v).cpu.halted = s.cpu.halted := by rfl
@[simp] theorem returning_dead (s : State) (v : Nat) : (s.returning v).cpu.dead = s.cpu.dead := by rfl
@[simp] theorem returning_reg_b (s : State) (v : Nat) : (s.returning v).cpu.b = s.cpu.b := by rfl
@[simp] theorem returning_reg_c (s : State) (v : Nat) : (s.returning v).cpu.c = s.cpu.c := by rfl
@[simp] theorem returning_reg_d (s : State) (v : Nat) : (s.returning v).cpu.d = s.cpu.d := by rfl
@[simp] theorem returning_reg_e (s : State) (v : Nat) : (s.returning v).cpu.e = s.cpu.e := by rfl
@[simp] theorem returning_reg_h (s : State) (v : Nat) : (s.returning v).cpu.h = s.cpu.h := by rfl
@[simp] theorem returning_reg_l (s : State) (v : Nat) : (s.returning v).cpu.l = s.cpu.l := by rfl
@[simp] theorem returning_reg_a (s : State) (v : Nat) : (s.returning v).cpu.a = s.cpu.a := by rfl
@[simp] theorem returning_reg (s : State) (v : Nat) (q : Reg8) : (s.returning v).reg q = s.reg q := by cases q <;> rfl
@[simp] theorem returning_bc (s : State) (v : Nat) : (s.returning v).bc = s.bc := by rfl
@[simp] theorem returning_de (s : State) (v : Nat) : (s.returning v).de = s.de := by rfl
@[simp] theorem returning_hl (s : State) (v : Nat) : (s.returning v).hl = s.hl := by rfl
@[simp] theorem returning_irq (s : State) (v : Nat) : (s.returning v).irq = s.irq := by rfl
@[simp] theorem returning_timer (s : State) (v : Nat) : (s.returning v).timer = s.timer := by rfl
@[simp] theorem returning_ppu (s : State) (v : Nat) : (s.returning v).ppu = s.ppu := by rfl
@[simp] theorem returning_cart (s : State) (v : Nat) : (s.returning v).cart = s.cart := by rfl
@[simp] theorem returning_wram (s : State) (v : Nat) : (s.returning v).wram = s.wram := by rfl
@[simp] theorem returning_hram (s : State) (v : Nat) : (s.returning v).hram = s.hram := by rfl
@[simp] theorem returning_joypad (s : State) (v : Nat) : (s.returning v).joypad = s.joypad := by rfl
@[simp] theorem returning_serial (s : State) (v : Nat) : (s.returning v).serial = s.serial := by rfl
@[simp] theorem returning_dma (s : State) (v : Nat) : (s.returning v).dma = s.dma := by rfl
@[simp] theorem returning_policy (s : State) (v : Nat) : (s.returning v).policy = s.policy := by rfl
@[simp] theorem returning_cycles (s : State) (v : Nat) : (s.returning v).cycles = v := by rfl

/-! ### After a write of A -/

@[simp] theorem putReg_a_b (s : State) (v : Byte) : (s.putReg .a v).cpu.b = s.cpu.b := rfl
@[simp] theorem putReg_a_c (s : State) (v : Byte) : (s.putReg .a v).cpu.c = s.cpu.c := rfl
@[simp] theorem putReg_a_d (s : State) (v : Byte) : (s.putReg .a v).cpu.d = s.cpu.d := rfl
@[simp] theorem putReg_a_e (s : State) (v : Byte) : (s.putReg .a v).cpu.e = s.cpu.e := rfl
@[simp] theorem putReg_a_h (s : State) (v : Byte) : (s.putReg .a v).cpu.h = s.cpu.h := rfl
@[simp] theorem putReg_a_l (s : State) (v : Byte) : (s.putReg .a v).cpu.l = s.cpu.l := rfl
@[simp] theorem putReg_a_a (s : State) (v : Byte) : (s.putReg .a v).cpu.a = v := rfl
@[simp] theorem putReg_a_pair_bc (s : State) (v : Byte) : (s.putReg .a v).bc = s.bc := rfl
@[simp] theorem putReg_a_pair_de (s : State) (v : Byte) : (s.putReg .a v).de = s.de := rfl
@[simp] theorem putReg_a_pair_hl (s : State) (v : Byte) : (s.putReg .a v).hl = s.hl := rfl

/-! ### After `putPair` -/

@[simp] theorem putPair_irq (s : State) (p : Pair) (v : Word) : (s.putPair p v).irq = s.irq := by
  cases p <;> rfl
@[simp] theorem putPair_timer (s : State) (p : Pair) (v : Word) : (s.putPair p v).timer = s.timer := by
  cases p <;> rfl
@[simp] theorem putPair_ppu (s : State) (p : Pair) (v : Word) : (s.putPair p v).ppu = s.ppu := by
  cases p <;> rfl
@[simp] theorem putPair_cart (s : State) (p : Pair) (v : Word) : (s.putPair p v).cart = s.cart := by
  cases p <;> rfl
@[simp] theorem putPair_wram (s : State) (p : Pair) (v : Word) : (s.putPair p v).wram = s.wram := by
  cases p <;> rfl
@[simp] theorem putPair_hram (s : State) (p : Pair) (v : Word) : (s.putPair p v).hram = s.hram := by
  cases p <;> rfl
@[simp] theorem putPair_joypad (s : State) (p : Pair) (v : Word) : (s.putPair p v).joypad = s.joypad := by
  cases p <;> rfl
@[simp] theorem putPair_serial (s : State) (p : Pair) (v : Word) : (s.putPair p v).serial = s.serial := by
  cases p <;> rfl
@[simp] theorem putPair_dma (s : State) (p : Pair) (v : Word) : (s.putPair p v).dma = s.dma := by
  cases p <;> rfl
@[simp] theorem putPair_policy (s : State) (p : Pair) (v : Word) : (s.putPair p v).policy = s.policy := by
  cases p <;> rfl
@[simp] theorem putPair_cycles (s : State) (p : Pair) (v : Word) : (s.putPair p v).cycles = s.cycles := by
  cases p <;> rfl
@[simp] theorem putPair_pc (s : State) (p : Pair) (v : Word) : (s.putPair p v).cpu.pc = s.cpu.pc := by
  cases p <;> rfl
@[simp] theorem putPair_ime (s : State) (p : Pair) (v : Word) : (s.putPair p v).cpu.ime = s.cpu.ime := by
  cases p <;> rfl
@[simp] theorem putPair_imePending (s : State) (p : Pair) (v : Word) : (s.putPair p v).cpu.imePending = s.cpu.imePending := by
  cases p <;> rfl
@[simp] theorem putPair_halted (s : State) (p : Pair) (v : Word) : (s.putPair p v).cpu.halted = s.cpu.halted := by
  cases p <;> rfl
@[simp] theorem putPair_dead (s : State) (p : Pair) (v : Word) : (s.putPair p v).cpu.dead = s.cpu.dead := by
  cases p <;> rfl

/-! ### After `putStackPair` -/

@[simp] theorem putStackPair_irq (s : State) (p : StackPair) (v : Word) : (s.putStackPair p v).irq = s.irq := by
  cases p <;> rfl
@[simp] theorem putStackPair_timer (s : State) (p : StackPair) (v : Word) : (s.putStackPair p v).timer = s.timer := by
  cases p <;> rfl
@[simp] theorem putStackPair_ppu (s : State) (p : StackPair) (v : Word) : (s.putStackPair p v).ppu = s.ppu := by
  cases p <;> rfl
@[simp] theorem putStackPair_cart (s : State) (p : StackPair) (v : Word) : (s.putStackPair p v).cart = s.cart := by
  cases p <;> rfl
@[simp] theorem putStackPair_wram (s : State) (p : StackPair) (v : Word) : (s.putStackPair p v).wram = s.wram := by
  cases p <;> rfl
@[simp] theorem putStackPair_hram (s : State) (p : StackPair) (v : Word) : (s.putStackPair p v).hram = s.hram := by
  cases p <;> rfl
@[simp] theorem putStackPair_joypad (s : State) (p : StackPair) (v : Word) : (s.putStackPair p v).joypad = s.joypad := by
  cases p <;> rfl
@[simp] theorem putStackPair_serial (s : State) (p : StackPair) (v : Word) : (s.putStackPair p v).serial = s.serial := by
  cases p <;> rfl
@[simp] theorem putStackPair_dma (s : State) (p : StackPair) (v : Word) : (s.putStackPair p v).dma = s.dma := by
  cases p <;> rfl
@[simp] theorem putStackPair_policy (s : State) (p : StackPair) (v : Word) : (s.putStackPair p v).policy = s.policy := by
  cases p <;> rfl
@[simp] theorem putStackPair_cycles (s : State) (p : StackPair) (v : Word) : (s.putStackPair p v).cycles = s.cycles := by
  cases p <;> rfl
@[simp] theorem putStackPair_pc (s : State) (p : StackPair) (v : Word) : (s.putStackPair p v).cpu.pc = s.cpu.pc := by
  cases p <;> rfl
@[simp] theorem putStackPair_ime (s : State) (p : StackPair) (v : Word) : (s.putStackPair p v).cpu.ime = s.cpu.ime := by
  cases p <;> rfl
@[simp] theorem putStackPair_imePending (s : State) (p : StackPair) (v : Word) : (s.putStackPair p v).cpu.imePending = s.cpu.imePending := by
  cases p <;> rfl
@[simp] theorem putStackPair_halted (s : State) (p : StackPair) (v : Word) : (s.putStackPair p v).cpu.halted = s.cpu.halted := by
  cases p <;> rfl
@[simp] theorem putStackPair_dead (s : State) (p : StackPair) (v : Word) : (s.putStackPair p v).cpu.dead = s.cpu.dead := by
  cases p <;> rfl

/-! ### After `putHl`, `bumpHl` and `dropHl` -/

@[simp] theorem putHl_irq (s : State) (v : Word) : (s.putHl v).irq = s.irq := rfl
@[simp] theorem putHl_timer (s : State) (v : Word) : (s.putHl v).timer = s.timer := rfl
@[simp] theorem putHl_ppu (s : State) (v : Word) : (s.putHl v).ppu = s.ppu := rfl
@[simp] theorem putHl_cart (s : State) (v : Word) : (s.putHl v).cart = s.cart := rfl
@[simp] theorem putHl_wram (s : State) (v : Word) : (s.putHl v).wram = s.wram := rfl
@[simp] theorem putHl_hram (s : State) (v : Word) : (s.putHl v).hram = s.hram := rfl
@[simp] theorem putHl_joypad (s : State) (v : Word) : (s.putHl v).joypad = s.joypad := rfl
@[simp] theorem putHl_serial (s : State) (v : Word) : (s.putHl v).serial = s.serial := rfl
@[simp] theorem putHl_dma (s : State) (v : Word) : (s.putHl v).dma = s.dma := rfl
@[simp] theorem putHl_policy (s : State) (v : Word) : (s.putHl v).policy = s.policy := rfl
@[simp] theorem putHl_cycles (s : State) (v : Word) : (s.putHl v).cycles = s.cycles := rfl
@[simp] theorem putHl_f (s : State) (v : Word) : (s.putHl v).cpu.f = s.cpu.f := rfl
@[simp] theorem putHl_sp (s : State) (v : Word) : (s.putHl v).cpu.sp = s.cpu.sp := rfl
@[simp] theorem putHl_pc (s : State) (v : Word) : (s.putHl v).cpu.pc = s.cpu.pc := rfl
@[simp] theorem putHl_ime (s : State) (v : Word) : (s.putHl v).cpu.ime = s.cpu.ime := rfl
@[simp] theorem putHl_imePending (s : State) (v : Word) : (s.putHl v).cpu.imePending = s.cpu.imePending := rfl
@[simp] theorem putHl_halted (s : State) (v : Word) : (s.putHl v).cpu.halted = s.cpu.halted := rfl
@[simp] theorem putHl_dead (s : State) (v : Word) : (s.putHl v).cpu.dead = s.cpu.dead := rfl
@[simp] theorem putHl_a (s : State) (v : Word) : (s.putHl v).cpu.a = s.cpu.a := rfl
@[simp] theorem putHl_b (s : State) (v : Word) : (s.putHl v).cpu.b = s.cpu.b := rfl
@[simp] theorem putHl_c (s : State) (v : Word) : (s.putHl v).cpu.c = s.cpu.c := rfl
@[simp] theorem putHl_d (s : State) (v : Word) : (s.putHl v).cpu.d = s.cpu.d := rfl
@[simp] theorem putHl_e (s : State) (v : Word) : (s.putHl v).cpu.e = s.cpu.e := rfl
@[simp] theorem bumpHl_irq (s : State) : (s.bumpHl).irq = s.irq := rfl
@[simp] theorem bumpHl_timer (s : State) : (s.bumpHl).timer = s.timer := rfl
@[simp] theorem bumpHl_ppu (s : State) : (s.bumpHl).ppu = s.ppu := rfl
@[simp] theorem bumpHl_cart (s : State) : (s.bumpHl).cart = s.cart := rfl
@[simp] theorem bumpHl_wram (s : State) : (s.bumpHl).wram = s.wram := rfl
@[simp] theorem bumpHl_hram (s : State) : (s.bumpHl).hram = s.hram := rfl
@[simp] theorem bumpHl_joypad (s : State) : (s.bumpHl).joypad = s.joypad := rfl
@[simp] theorem bumpHl_serial (s : State) : (s.bumpHl).serial = s.serial := rfl
@[simp] theorem bumpHl_dma (s : State) : (s.bumpHl).dma = s.dma := rfl
@[simp] theorem bumpHl_policy (s : State) : (s.bumpHl).policy = s.policy := rfl
@[simp] theorem bumpHl_cycles (s : State) : (s.bumpHl).cycles = s.cycles := rfl
@[simp] theorem bumpHl_f (s : State) : (s.bumpHl).cpu.f = s.cpu.f := rfl
@[simp] theorem bumpHl_sp (s : State) : (s.bumpHl).cpu.sp = s.cpu.sp := rfl
@[simp] theorem bumpHl_pc (s : State) : (s.bumpHl).cpu.pc = s.cpu.pc := rfl
@[simp] theorem bumpHl_ime (s : State) : (s.bumpHl).cpu.ime = s.cpu.ime := rfl
@[simp] theorem bumpHl_imePending (s : State) : (s.bumpHl).cpu.imePending = s.cpu.imePending := rfl
@[simp] theorem bumpHl_halted (s : State) : (s.bumpHl).cpu.halted = s.cpu.halted := rfl
@[simp] theorem bumpHl_dead (s : State) : (s.bumpHl).cpu.dead = s.cpu.dead := rfl
@[simp] theorem bumpHl_a (s : State) : (s.bumpHl).cpu.a = s.cpu.a := rfl
@[simp] theorem bumpHl_b (s : State) : (s.bumpHl).cpu.b = s.cpu.b := rfl
@[simp] theorem bumpHl_c (s : State) : (s.bumpHl).cpu.c = s.cpu.c := rfl
@[simp] theorem bumpHl_d (s : State) : (s.bumpHl).cpu.d = s.cpu.d := rfl
@[simp] theorem bumpHl_e (s : State) : (s.bumpHl).cpu.e = s.cpu.e := rfl
@[simp] theorem dropHl_irq (s : State) : (s.dropHl).irq = s.irq := rfl
@[simp] theorem dropHl_timer (s : State) : (s.dropHl).timer = s.timer := rfl
@[simp] theorem dropHl_ppu (s : State) : (s.dropHl).ppu = s.ppu := rfl
@[simp] theorem dropHl_cart (s : State) : (s.dropHl).cart = s.cart := rfl
@[simp] theorem dropHl_wram (s : State) : (s.dropHl).wram = s.wram := rfl
@[simp] theorem dropHl_hram (s : State) : (s.dropHl).hram = s.hram := rfl
@[simp] theorem dropHl_joypad (s : State) : (s.dropHl).joypad = s.joypad := rfl
@[simp] theorem dropHl_serial (s : State) : (s.dropHl).serial = s.serial := rfl
@[simp] theorem dropHl_dma (s : State) : (s.dropHl).dma = s.dma := rfl
@[simp] theorem dropHl_policy (s : State) : (s.dropHl).policy = s.policy := rfl
@[simp] theorem dropHl_cycles (s : State) : (s.dropHl).cycles = s.cycles := rfl
@[simp] theorem dropHl_f (s : State) : (s.dropHl).cpu.f = s.cpu.f := rfl
@[simp] theorem dropHl_sp (s : State) : (s.dropHl).cpu.sp = s.cpu.sp := rfl
@[simp] theorem dropHl_pc (s : State) : (s.dropHl).cpu.pc = s.cpu.pc := rfl
@[simp] theorem dropHl_ime (s : State) : (s.dropHl).cpu.ime = s.cpu.ime := rfl
@[simp] theorem dropHl_imePending (s : State) : (s.dropHl).cpu.imePending = s.cpu.imePending := rfl
@[simp] theorem dropHl_halted (s : State) : (s.dropHl).cpu.halted = s.cpu.halted := rfl
@[simp] theorem dropHl_dead (s : State) : (s.dropHl).cpu.dead = s.cpu.dead := rfl
@[simp] theorem dropHl_a (s : State) : (s.dropHl).cpu.a = s.cpu.a := rfl
@[simp] theorem dropHl_b (s : State) : (s.dropHl).cpu.b = s.cpu.b := rfl
@[simp] theorem dropHl_c (s : State) : (s.dropHl).cpu.c = s.cpu.c := rfl
@[simp] theorem dropHl_d (s : State) : (s.dropHl).cpu.d = s.cpu.d := rfl
@[simp] theorem dropHl_e (s : State) : (s.dropHl).cpu.e = s.cpu.e := rfl

/-! ### Pairs -/

@[simp] theorem putHl_h (s : State) (v : Word) : (s.putHl v).cpu.h = hiByte v := rfl
@[simp] theorem putHl_l (s : State) (v : Word) : (s.putHl v).cpu.l = loByte v := rfl

@[simp] theorem hl_putHl (s : State) (v : Word) : (s.putHl v).hl = v := by
  simp [State.putHl, State.hl, State.putReg]

@[simp] theorem hl_bumpHl (s : State) : s.bumpHl.hl = s.hl + 1 := hl_putHl s _

@[simp] theorem hl_dropHl (s : State) : s.dropHl.hl = s.hl - 1 := hl_putHl s _

/-- A register that is not H or L is unchanged by a write of HL. -/
theorem reg_putHl_ne (s : State) (v : Word) {q : Reg8} (h : q ∉ [Reg8.h, Reg8.l]) : (s.putHl v).reg q = s.reg q := by
  cases q <;> first | rfl | simp at h

@[simp] theorem pair_putPair_same (s : State) (p : Pair) (v : Word) : (s.putPair p v).pair p = v := by
  cases p <;> simp [State.putPair, State.pair, State.bc, State.de, State.hl, State.putHl, State.putReg, State.putSp]

@[simp] theorem returning_pair (s : State) (n : Nat) (p : Pair) : (s.returning n).pair p = s.pair p := by
  cases p <;> rfl

@[simp] theorem returning_stackPair (s : State) (n : Nat) (p : StackPair) :
    (s.returning n).stackPair p = s.stackPair p := by
  cases p <;> rfl

@[simp] theorem advance_pair (s : State) (n : Nat) (p : Pair) : (s.advance n).pair p = s.pair p := by
  cases p <;> rfl

@[simp] theorem advance_stackPair (s : State) (n : Nat) (p : StackPair) :
    (s.advance n).stackPair p = s.stackPair p := by
  cases p <;> rfl

@[simp] theorem advance_cond (s : State) (n : Nat) (k : Cond) : (s.advance n).cond k = s.cond k := by
  cases k <;> rfl

/-- `done` is always a next state. -/
theorem done_eq (s : State) (n : Nat) : s.done n = .next (s.returning n) := rfl

end Sys2Proof.Machine
end

