-- ==== Sys2Proof/Laws/Bus.lean ====
section
/-! SUPPORT. The bus: what a read depends on, what a write changes, and reads after writes. -/

namespace Sys2Proof.Machine

/-! ### A write changes nothing of the CPU -/

@[simp] theorem writeIo_cpu (s : State) (r : IoReg) (v : Byte) : (s.writeIo r v).cpu = s.cpu := by
  cases r <;> rfl

@[simp] theorem writeIo_policy (s : State) (r : IoReg) (v : Byte) : (s.writeIo r v).policy = s.policy := by
  cases r <;> rfl

@[simp] theorem writeIo_cycles (s : State) (r : IoReg) (v : Byte) : (s.writeIo r v).cycles = s.cycles := by
  cases r <;> rfl

@[simp] theorem writeIo_cart (s : State) (r : IoReg) (v : Byte) : (s.writeIo r v).cart = s.cart := by
  cases r <;> rfl

@[simp] theorem writeIo_wram (s : State) (r : IoReg) (v : Byte) : (s.writeIo r v).wram = s.wram := by
  cases r <;> rfl

@[simp] theorem writeIo_hram (s : State) (r : IoReg) (v : Byte) : (s.writeIo r v).hram = s.hram := by
  cases r <;> rfl

@[simp] theorem writeIo_buttons (s : State) (r : IoReg) (v : Byte) :
    (s.writeIo r v).joypad.buttons = s.joypad.buttons := by
  cases r <;> rfl

@[simp] theorem busWrite_cpu (s : State) (a : Word) (v : Byte) : (s.busWrite a v).cpu = s.cpu := by
  unfold State.busWrite
  split <;> first | rfl | exact writeIo_cpu s _ v

@[simp] theorem busWrite_policy (s : State) (a : Word) (v : Byte) : (s.busWrite a v).policy = s.policy := by
  unfold State.busWrite
  split <;> first | rfl | exact writeIo_policy s _ v

@[simp] theorem busWrite_cycles (s : State) (a : Word) (v : Byte) : (s.busWrite a v).cycles = s.cycles := by
  unfold State.busWrite
  split <;> first | rfl | exact writeIo_cycles s _ v

@[simp] theorem busWrite_buttons (s : State) (a : Word) (v : Byte) :
    (s.busWrite a v).joypad.buttons = s.joypad.buttons := by
  unfold State.busWrite
  split <;> first | rfl | exact writeIo_buttons s _ v

@[simp] theorem busWrite_reg (s : State) (a : Word) (v : Byte) (q : Reg8) :
    (s.busWrite a v).reg q = s.reg q := by
  cases q <;> simp [State.reg]

@[simp] theorem busWrite_hl (s : State) (a : Word) (v : Byte) : (s.busWrite a v).hl = s.hl := by
  simp [State.hl]

/-- A banking command changes no byte of the image, and nothing fixed for an instance. -/
theorem controlWrite_fixed (c : Cart) (a : Word) (v : Byte) :
    (c.controlWrite a v).rom = c.rom ∧ (c.controlWrite a v).romLen = c.romLen ∧
    (c.controlWrite a v).cartType = c.cartType ∧ (c.controlWrite a v).hasRam = c.hasRam ∧
    (c.controlWrite a v).hasBattery = c.hasBattery ∧ (c.controlWrite a v).romBanks = c.romBanks ∧
    (c.controlWrite a v).ramLen = c.ramLen ∧ (c.controlWrite a v).extRam = c.extRam := by
  unfold Cart.controlWrite
  split
  · simp
  · split
    · simp
    · split
      · simp
      · split <;> simp

/-- A bus write changes no byte of the image, and nothing of the cartridge that is fixed for an instance. -/
theorem busWrite_cartFixed (s : State) (a : Word) (v : Byte) :
    (s.busWrite a v).cart.rom = s.cart.rom ∧ (s.busWrite a v).cart.romLen = s.cart.romLen ∧
    (s.busWrite a v).cart.cartType = s.cart.cartType ∧ (s.busWrite a v).cart.romBanks = s.cart.romBanks ∧
    (s.busWrite a v).cart.ramLen = s.cart.ramLen ∧ (s.busWrite a v).cart.hasRam = s.cart.hasRam ∧
    (s.busWrite a v).cart.hasBattery = s.cart.hasBattery := by
  have h := controlWrite_fixed s.cart a v
  unfold State.busWrite
  split
  case h_1 => exact ⟨h.1, h.2.1, h.2.2.1, h.2.2.2.2.2.1, h.2.2.2.2.2.2.1, h.2.2.2.1, h.2.2.2.2.1⟩
  all_goals simp

/-! ### What a read depends on -/

/-- A read of a place sees everything but the CPU and the ticks. -/
theorem readPlace_congr {s t : State} (hi : t.irq = s.irq) (ht : t.timer = s.timer) (hp : t.ppu = s.ppu)
    (hc : t.cart = s.cart) (hw : t.wram = s.wram) (hh : t.hram = s.hram) (hj : t.joypad = s.joypad)
    (hs : t.serial = s.serial) (hd : t.dma = s.dma) (p : Place) : t.readPlace p = s.readPlace p := by
  cases p <;> simp only [State.readPlace, hi, hp, hc, hw, hh]
  rename_i r
  cases r <;> simp only [State.readIo, hi, ht, hp, hj, hs, hd]

theorem place_congr {s t : State} (hc : t.cart = s.cart) (a : Word) : t.place a = s.place a := by
  simp only [State.place, hc]

/-- Two states that agree outside the CPU agree on every bus read. -/
theorem SameOutsideCpu.of_fields {s t : State} (hi : t.irq = s.irq) (ht : t.timer = s.timer)
    (hp : t.ppu = s.ppu) (hc : t.cart = s.cart) (hw : t.wram = s.wram) (hh : t.hram = s.hram)
    (hj : t.joypad = s.joypad) (hs : t.serial = s.serial) (hd : t.dma = s.dma) (hy : t.policy = s.policy) :
    SameOutsideCpu s t :=
  ⟨hi, ht, hp, hc, hw, hh, hj, hs, hd, hy, fun x => by
    simp only [State.busRead, place_congr hc]
    exact readPlace_congr hi ht hp hc hw hh hj hs hd _⟩

theorem SameOutsideCpu.refl (s : State) : SameOutsideCpu s s :=
  .of_fields rfl rfl rfl rfl rfl rfl rfl rfl rfl rfl

theorem SameOutsideCpu.trans {s t u : State} (h : SameOutsideCpu s t) (k : SameOutsideCpu t u) :
    SameOutsideCpu s u :=
  .of_fields (k.irq.trans h.irq) (k.timer.trans h.timer) (k.ppu.trans h.ppu) (k.cart.trans h.cart)
    (k.wram.trans h.wram) (k.hram.trans h.hram) (k.joypad.trans h.joypad) (k.serial.trans h.serial)
    (k.dma.trans h.dma) (k.policy.trans h.policy)

/-- A change of the CPU and of the ticks alone. -/
theorem SameOutsideCpu.cpu (s : State) (c : Cpu) (n : Nat) : SameOutsideCpu s { s with cpu := c, cycles := n } :=
  .of_fields rfl rfl rfl rfl rfl rfl rfl rfl rfl rfl

theorem place_of_same {s t : State} (h : SameOutsideCpu s t) (a : Word) : t.place a = s.place a :=
  place_congr h.cart a

theorem plainRam_of_same {s t : State} (h : SameOutsideCpu s t) (a : Word) : t.plainRam a = s.plainRam a := by
  simp only [State.plainRam, place_congr h.cart, h.ppu]

/-- The same write in two states that agree outside the CPU. -/
theorem busWrite_of_same {s t : State} (h : SameOutsideCpu s t) (a : Word) (v : Byte) :
    SameOutsideCpu (s.busWrite a v) (t.busWrite a v) := by
  obtain ⟨hi, ht, hp, hc, hw, hh, hj, hs, hd, hy, -⟩ := h
  have hpl := place_congr hc a
  cases hs' : s.place a <;> rw [hs'] at hpl <;> simp only [State.busWrite, hs', hpl]
  case io r =>
    cases r <;> simp only [State.writeIo, State.writeDma, State.dmaBytes, State.dmaRead] <;>
      refine .of_fields ?_ ?_ ?_ ?_ ?_ ?_ ?_ ?_ ?_ ?_ <;> simp only [hi, ht, hp, hc, hw, hh, hj, hs, hd, hy]
  all_goals
    refine .of_fields ?_ ?_ ?_ ?_ ?_ ?_ ?_ ?_ ?_ ?_ <;> simp only [hi, ht, hp, hc, hw, hh, hj, hs, hd, hy]

theorem sameOutside_iff (s t : State) : SameOutsideCpu s t ↔
    t.irq = s.irq ∧ t.timer = s.timer ∧ t.ppu = s.ppu ∧ t.cart = s.cart ∧ t.wram = s.wram ∧ t.hram = s.hram ∧
    t.joypad = s.joypad ∧ t.serial = s.serial ∧ t.dma = s.dma ∧ t.policy = s.policy :=
  ⟨fun h => ⟨h.irq, h.timer, h.ppu, h.cart, h.wram, h.hram, h.joypad, h.serial, h.dma, h.policy⟩,
    fun ⟨a, b, c, d, e, f, g, h, i, j⟩ => .of_fields a b c d e f g h i j⟩

@[simp] theorem busRead_advance (s : State) (n : Nat) (a : Word) : (s.advance n).busRead a = s.busRead a := rfl
@[simp] theorem busRead_returning (s : State) (n : Nat) (a : Word) : (s.returning n).busRead a = s.busRead a := rfl
@[simp] theorem busRead_putSp (s : State) (v a : Word) : (s.putSp v).busRead a = s.busRead a := rfl
@[simp] theorem busRead_putPc (s : State) (v a : Word) : (s.putPc v).busRead a = s.busRead a := rfl
@[simp] theorem busRead_putF (s : State) (v : Byte) (a : Word) : (s.putF v).busRead a = s.busRead a := rfl
@[simp] theorem busRead_putReg (s : State) (r : Reg8) (v : Byte) (a : Word) :
    (s.putReg r v).busRead a = s.busRead a := by
  cases r <;> rfl

/-! A bus write neither sees nor changes the CPU, so the two kinds of update commute; register updates go
outermost. -/

@[simp] theorem busWrite_putPc (s : State) (w a : Word) (v : Byte) :
    (s.putPc w).busWrite a v = (s.busWrite a v).putPc w := by
  unfold State.busWrite
  rw [place_congr (s := s) (t := s.putPc w) rfl a]
  split
  case h_7 r _ => cases r <;> rfl
  all_goals rfl

@[simp] theorem busWrite_putSp (s : State) (w a : Word) (v : Byte) :
    (s.putSp w).busWrite a v = (s.busWrite a v).putSp w := by
  unfold State.busWrite
  rw [place_congr (s := s) (t := s.putSp w) rfl a]
  split
  case h_7 r _ => cases r <;> rfl
  all_goals rfl

@[simp] theorem busWrite_advance (s : State) (n : Nat) (a : Word) (v : Byte) :
    (s.advance n).busWrite a v = (s.busWrite a v).advance n := by
  simp [State.advance]

/-! ### The address decoder -/

/-- The owners of an address, each with its range and the offset it gives (rule R61). -/
inductive PlaceCase (s : State) (a : Word) : Place → Prop where
  | rom {i : Nat} (hi : a.toNat ≤ 0x7FFF) (e : i = s.cart.romIndex a) : PlaceCase s a (.rom i)
  | vram {i : Nat} (lo : 0x8000 ≤ a.toNat) (hi : a.toNat ≤ 0x9FFF) (e : i = a.toNat - 0x8000) : PlaceCase s a (.vram i)
  | extRam {i : Nat} (lo : 0xA000 ≤ a.toNat) (hi : a.toNat ≤ 0xBFFF) (on : s.cart.ramOn = true)
      (e : i = s.cart.ramIndex a) : PlaceCase s a (.extRam i)
  | ramOff (lo : 0xA000 ≤ a.toNat) (hi : a.toNat ≤ 0xBFFF) (off : s.cart.ramOn = false) : PlaceCase s a .unclaimed
  | wram {i : Nat} (lo : 0xC000 ≤ a.toNat) (hi : a.toNat ≤ 0xDFFF) (e : i = a.toNat - 0xC000) : PlaceCase s a (.wram i)
  | echo {i : Nat} (lo : 0xE000 ≤ a.toNat) (hi : a.toNat ≤ 0xFDFF) (e : i = a.toNat - 0xE000) : PlaceCase s a (.wram i)
  | oam {i : Nat} (lo : 0xFE00 ≤ a.toNat) (hi : a.toNat ≤ 0xFE9F) (e : i = a.toNat - 0xFE00) : PlaceCase s a (.oam i)
  | gap (lo : 0xFEA0 ≤ a.toNat) (hi : a.toNat ≤ 0xFEFF) : PlaceCase s a .unclaimed
  | io {r : IoReg} (lo : 0xFF00 ≤ a.toNat) (hi : a.toNat ≤ 0xFF7F) (e : ioRegAt (a.toNat - 0xFF00) = some r) :
      PlaceCase s a (.io r)
  | noReg (lo : 0xFF00 ≤ a.toNat) (hi : a.toNat ≤ 0xFF7F) (e : ioRegAt (a.toNat - 0xFF00) = none) :
      PlaceCase s a .unclaimed
  | hram {i : Nat} (lo : 0xFF80 ≤ a.toNat) (hi : a.toNat ≤ 0xFFFE) (e : i = a.toNat - 0xFF80) : PlaceCase s a (.hram i)
  | ie (top : a.toNat = 0xFFFF) : PlaceCase s a .ie

/-- The decoder sends an address to one of its owners. -/
theorem place_cases (s : State) (a : Word) : PlaceCase s a (s.place a) := by
  have ha := a.isLt
  simp only [State.place]
  split
  · exact .rom ‹_› rfl
  split
  · exact .vram (by omega) ‹_› rfl
  split
  · cases h : s.cart.ramOn
    · exact .ramOff (by omega) ‹_› h
    · exact .extRam (by omega) ‹_› h rfl
  split
  · exact .wram (by omega) ‹_› rfl
  split
  · exact .echo (by omega) ‹_› rfl
  split
  · exact .oam (by omega) ‹_› rfl
  split
  · exact .gap (by omega) ‹_›
  split
  · cases h : ioRegAt (a.toNat - 0xFF00)
    · exact .noReg (by omega) ‹_› h
    · exact .io (by omega) ‹_› h
  split
  · exact .hram (by omega) ‹_› rfl
  · exact .ie (by omega)

/-! One lemma for each range of the decoder. -/

theorem place_rom {s : State} {a : Word} (h : a.toNat ≤ 0x7FFF) : s.place a = .rom (s.cart.romIndex a) :=
  if_pos h

theorem place_vram {s : State} {a : Word} (h : 0x8000 ≤ a.toNat) (k : a.toNat ≤ 0x9FFF) :
    s.place a = .vram (a.toNat - 0x8000) := by
  simp (disch := omega) only [State.place, if_neg, if_pos]

theorem place_extRam {s : State} {a : Word} (h : 0xA000 ≤ a.toNat) (k : a.toNat ≤ 0xBFFF) :
    s.place a = if s.cart.ramOn then .extRam (s.cart.ramIndex a) else .unclaimed := by
  simp (disch := omega) only [State.place, if_neg, if_pos]

theorem place_wram {s : State} {a : Word} (h : 0xC000 ≤ a.toNat) (k : a.toNat ≤ 0xDFFF) :
    s.place a = .wram (a.toNat - 0xC000) := by
  simp (disch := omega) only [State.place, if_neg, if_pos]

theorem place_echo {s : State} {a : Word} (h : 0xE000 ≤ a.toNat) (k : a.toNat ≤ 0xFDFF) :
    s.place a = .wram (a.toNat - 0xE000) := by
  simp (disch := omega) only [State.place, if_neg, if_pos]

theorem place_oam {s : State} {a : Word} (h : 0xFE00 ≤ a.toNat) (k : a.toNat ≤ 0xFE9F) :
    s.place a = .oam (a.toNat - 0xFE00) := by
  simp (disch := omega) only [State.place, if_neg, if_pos]

theorem place_unclaimed {s : State} {a : Word} (h : 0xFEA0 ≤ a.toNat) (k : a.toNat ≤ 0xFEFF) :
    s.place a = .unclaimed := by
  simp (disch := omega) only [State.place, if_neg, if_pos]

theorem place_io {s : State} {a : Word} (h : 0xFF00 ≤ a.toNat) (k : a.toNat ≤ 0xFF7F) :
    s.place a = (ioRegAt (a.toNat - 0xFF00)).elim .unclaimed .io := by
  simp (disch := omega) only [State.place, if_neg, if_pos]
  cases ioRegAt (a.toNat - 0xFF00) <;> rfl

theorem place_hram {s : State} {a : Word} (h : 0xFF80 ≤ a.toNat) (k : a.toNat ≤ 0xFFFE) :
    s.place a = .hram (a.toNat - 0xFF80) := by
  simp (disch := omega) only [State.place, if_neg, if_pos]

/-! ### The DMA source -/

theorem dmaRead_low {s : State} {a : Word} (h : a.toNat < 0xE000) : s.dmaRead a =
    if a.toNat ≤ 0x7FFF then s.cart.romRead a
    else if a.toNat ≤ 0x9FFF then s.ppu.vram.read (a.toNat - 0x8000)
    else if a.toNat ≤ 0xBFFF then s.cart.ramRead a
    else s.wram.read (a.toNat - 0xC000) := by
  simp only [State.dmaRead, if_neg (by omega : ¬0xE000 ≤ a.toNat)]

theorem dmaRead_high {s : State} {a : Word} (h : 0xE000 ≤ a.toNat) :
    s.dmaRead a = s.wram.read (a.toNat - 0xE000) := by
  have e : (a - 0x2000).toNat = a.toNat - 0x2000 := by bv_omega
  simp (disch := omega) only [State.dmaRead, e, if_neg, if_pos]
  exact congrArg s.wram.read (by omega)

/-! ### Plain RAM -/

@[simp] theorem writeVram_vramLocked (p : Ppu) (i : Nat) (v : Byte) :
    (p.writeVram i v).vramLocked = p.vramLocked := by
  unfold Ppu.writeVram
  split <;> rfl

@[simp] theorem writeVram_oamLocked (p : Ppu) (i : Nat) (v : Byte) :
    (p.writeVram i v).oamLocked = p.oamLocked := by
  unfold Ppu.writeVram
  split <;> rfl

@[simp] theorem writeOam_vramLocked (p : Ppu) (i : Nat) (v : Byte) :
    (p.writeOam i v).vramLocked = p.vramLocked := by
  unfold Ppu.writeOam
  split <;> rfl

@[simp] theorem writeOam_oamLocked (p : Ppu) (i : Nat) (v : Byte) :
    (p.writeOam i v).oamLocked = p.oamLocked := by
  unfold Ppu.writeOam
  split <;> rfl

/-- The byte written to unlocked VRAM is the byte read. -/
theorem readVram_writeVram_same {p : Ppu} (h : p.vramLocked = false) (i : Nat) (v : Byte) :
    (p.writeVram i v).readVram i = v := by
  simp only [Ppu.readVram, writeVram_vramLocked, h]
  simp [Ppu.writeVram, h]

theorem readVram_writeVram_ne (p : Ppu) {i j : Nat} (h : j ≠ i) (v : Byte) :
    (p.writeVram i v).readVram j = p.readVram j := by
  unfold Ppu.readVram
  rw [writeVram_vramLocked]
  unfold Ppu.writeVram
  cases p.vramLocked
  · exact Memory.read_write_ne _ v h
  · rfl

theorem readOam_writeOam_same {p : Ppu} (h : p.oamLocked = false) (i : Nat) (v : Byte) :
    (p.writeOam i v).readOam i = v := by
  simp only [Ppu.readOam, writeOam_oamLocked, h]
  simp [Ppu.writeOam, h]

theorem readOam_writeOam_ne (p : Ppu) {i j : Nat} (h : j ≠ i) (v : Byte) :
    (p.writeOam i v).readOam j = p.readOam j := by
  unfold Ppu.readOam
  rw [writeOam_oamLocked]
  unfold Ppu.writeOam
  cases p.oamLocked
  · exact Memory.read_write_ne _ v h
  · rfl

theorem readOam_writeVram (p : Ppu) (i j : Nat) (v : Byte) : (p.writeVram i v).readOam j = p.readOam j := by
  unfold Ppu.writeVram
  split <;> rfl

theorem readVram_writeOam (p : Ppu) (i j : Nat) (v : Byte) : (p.writeOam i v).readVram j = p.readVram j := by
  unfold Ppu.writeOam
  split <;> rfl

/-- The registers do not show the bytes of the arrays. -/
theorem readIo_writeVram (s : State) (r : IoReg) (i : Nat) (v : Byte) :
    ({ s with ppu := s.ppu.writeVram i v } : State).readIo r = s.readIo r := by
  unfold Ppu.writeVram
  split
  · rfl
  · cases r <;> rfl

theorem readIo_writeOam (s : State) (r : IoReg) (i : Nat) (v : Byte) :
    ({ s with ppu := s.ppu.writeOam i v } : State).readIo r = s.readIo r := by
  unfold Ppu.writeOam
  split
  · rfl
  · cases r <;> rfl

/-! One lemma for each array: a place that is not the byte written reads as before. -/

theorem readPlace_wram_ne (s : State) (i : Nat) (v : Byte) {p : Place} (h : p ≠ .wram i) :
    ({ s with wram := s.wram.write i v } : State).readPlace p = s.readPlace p := by
  cases p
  case wram j => exact Memory.read_write_ne _ v (fun e => h (by rw [e]))
  case io r => cases r <;> rfl
  all_goals rfl

theorem readPlace_hram_ne (s : State) (i : Nat) (v : Byte) {p : Place} (h : p ≠ .hram i) :
    ({ s with hram := s.hram.write i v } : State).readPlace p = s.readPlace p := by
  cases p
  case hram j => exact Memory.read_write_ne _ v (fun e => h (by rw [e]))
  case io r => cases r <;> rfl
  all_goals rfl

theorem readPlace_extRam_ne (s : State) (i : Nat) (v : Byte) {p : Place} (h : p ≠ .extRam i) :
    ({ s with cart := { s.cart with extRam := s.cart.extRam.write i v } } : State).readPlace p =
      s.readPlace p := by
  cases p
  case extRam j => exact Memory.read_write_ne _ v (fun e => h (by rw [e]))
  case io r => cases r <;> rfl
  all_goals rfl

theorem readPlace_vram_ne (s : State) (i : Nat) (v : Byte) {p : Place} (h : p ≠ .vram i) :
    ({ s with ppu := s.ppu.writeVram i v } : State).readPlace p = s.readPlace p := by
  cases p
  case vram j => exact readVram_writeVram_ne _ (fun e => h (by rw [e])) v
  case oam j => exact readOam_writeVram _ _ _ v
  case io r => exact readIo_writeVram s r i v
  all_goals rfl

theorem readPlace_oam_ne (s : State) (i : Nat) (v : Byte) {p : Place} (h : p ≠ .oam i) :
    ({ s with ppu := s.ppu.writeOam i v } : State).readPlace p = s.readPlace p := by
  cases p
  case oam j => exact readOam_writeOam_ne _ (fun e => h (by rw [e])) v
  case vram j => exact readVram_writeOam _ _ _ v
  case io r => exact readIo_writeOam s r i v
  all_goals rfl

/-- The five ways a place can be plain RAM. -/
theorem plainRam_cases {s : State} {a : Word} (h : s.plainRam a) :
    (∃ i, s.place a = .wram i) ∨ (∃ i, s.place a = .hram i) ∨ (∃ i, s.place a = .extRam i) ∨
    (∃ i, s.place a = .vram i ∧ s.ppu.vramLocked = false) ∨ (∃ i, s.place a = .oam i ∧ s.ppu.oamLocked = false) := by
  unfold State.plainRam at h
  cases hp : s.place a <;> rw [hp] at h <;> simp_all

/-- A write to plain RAM moves no address to another place. -/
theorem place_busWrite_plain {s : State} {a : Word} (h : s.plainRam a) (v : Byte) (x : Word) :
    (s.busWrite a v).place x = s.place x := by
  rcases plainRam_cases h with ⟨i, hp⟩ | ⟨i, hp⟩ | ⟨i, hp⟩ | ⟨i, hp, -⟩ | ⟨i, hp, -⟩ <;>
    simp only [State.busWrite, hp] <;> rfl

/-- A write to plain RAM changes no lock and no controller register: plain RAM stays plain RAM. -/
theorem plainRam_busWrite {s : State} {a : Word} (h : s.plainRam a) (v : Byte) (x : Word) :
    (s.busWrite a v).plainRam x = s.plainRam x := by
  have hpl := place_busWrite_plain h v x
  simp only [State.plainRam, hpl]
  rcases plainRam_cases h with ⟨i, hp⟩ | ⟨i, hp⟩ | ⟨i, hp⟩ | ⟨i, hp, -⟩ | ⟨i, hp, -⟩ <;>
    simp [State.busWrite, hp]

/-- The byte written to plain RAM is the byte read there. -/
theorem busRead_busWrite_same {s : State} {a : Word} (h : s.plainRam a) (v : Byte) :
    (s.busWrite a v).busRead a = v := by
  rw [State.busRead, place_busWrite_plain h v a]
  rcases plainRam_cases h with ⟨i, hp⟩ | ⟨i, hp⟩ | ⟨i, hp⟩ | ⟨i, hp, hl⟩ | ⟨i, hp, hl⟩ <;>
    simp [State.busWrite, State.readPlace, readVram_writeVram_same, readOam_writeOam_same, *]

/-- A write to plain RAM changes no read of an address that leads elsewhere. -/
theorem busRead_busWrite_ne {s : State} {a : Word} (h : s.plainRam a) (v : Byte) {x : Word}
    (hx : s.place x ≠ s.place a) : (s.busWrite a v).busRead x = s.busRead x := by
  rw [State.busRead, place_busWrite_plain h v x, State.busRead]
  rcases plainRam_cases h with ⟨i, hp⟩ | ⟨i, hp⟩ | ⟨i, hp⟩ | ⟨i, hp, -⟩ | ⟨i, hp, -⟩ <;>
    rw [hp] at hx <;> simp only [State.busWrite, hp]
  · exact readPlace_wram_ne s i v hx
  · exact readPlace_hram_ne s i v hx
  · exact readPlace_extRam_ne s i v hx
  · exact readPlace_vram_ne s i v hx
  · exact readPlace_oam_ne s i v hx

/-- One bus write, whatever else happened in the CPU. -/
theorem OneStore.of_same {s t : State} {a : Word} {v : Byte} (h : SameOutsideCpu (s.busWrite a v) t) :
    OneStore s t a v :=
  ⟨h, fun hp => (h.reads a).trans (busRead_busWrite_same hp v),
    fun hp x hx => (h.reads x).trans (busRead_busWrite_ne hp v hx)⟩

/-- Two bus writes, whatever else happened in the CPU. -/
theorem TwoStores.of_same {s t : State} {a b : Word} {v w : Byte}
    (h : SameOutsideCpu ((s.busWrite a v).busWrite b w) t) : TwoStores s t a v b w := by
  refine ⟨h, fun ha hb hab => ?_, fun ha hb => ?_, fun ha hb x hxa hxb => ?_⟩ <;>
    rw [h.reads] <;> rw [← plainRam_busWrite ha v b] at hb
  · rw [busRead_busWrite_ne hb w (by rwa [place_busWrite_plain ha, place_busWrite_plain ha])]
    exact busRead_busWrite_same ha v
  · exact busRead_busWrite_same hb w
  · rw [busRead_busWrite_ne hb w (by rwa [place_busWrite_plain ha, place_busWrite_plain ha])]
    exact busRead_busWrite_ne ha v hxa

/-! ### Neighbours -/

theorem mod_pred_ne {x m : Nat} (hm : 2 ≤ m) : x % m ≠ (x + 1) % m := by
  intro h
  have h0 : (x + 1) % m = (x % m + 1) % m := by simp [Nat.add_mod]
  have h1 := Nat.mod_lt x (by omega : 0 < m)
  by_cases hx : x % m + 1 = m
  · rw [h0, hx, Nat.mod_self] at h; omega
  · rw [h0, Nat.mod_eq_of_lt (by omega : x % m + 1 < m)] at h; omega

/-- Two neighbouring addresses of plain RAM lead to different bytes. -/
theorem place_pred_ne {s : State} (hc : s.cart.Inv) {a : Word} (h1 : s.plainRam a) :
    s.place a ≠ s.place (a - 1) := by
  have hw : (a - 1).toNat = (a.toNat + 65535) % 65536 := by bv_omega
  have ha := a.isLt
  intro h
  have c := place_cases s a
  have d := place_cases s (a - 1)
  rw [← h] at d
  rcases plainRam_cases h1 with ⟨i, hp⟩ | ⟨i, hp⟩ | ⟨i, hp⟩ | ⟨i, hp, -⟩ | ⟨i, hp, -⟩ <;> rw [hp] at c d <;>
    cases c <;> cases d <;> try omega
  case extRam.extRam lo hi on e lo' hi' on' e' =>
    have hr : 2 ≤ s.cart.ramLen := by
      have hs := hc.ramSize
      simp only [Cart.ramOn, Bool.and_eq_true, bne_iff_ne] at on
      simp only [List.mem_cons, List.not_mem_nil, or_false] at hs
      omega
    rw [e] at e'
    simp only [Cart.ramIndex] at e'
    generalize (if s.cart.bankMode then s.cart.bank2.toNat else 0) * 0x2000 = base at e'
    have step : base + (a.toNat - 0xA000) = base + ((a - 1).toNat - 0xA000) + 1 := by omega
    rw [step] at e'
    exact mod_pred_ne hr e'.symm

end Sys2Proof.Machine
end

