-- ==== Sys2Proof/Laws/Decode.lean ====
section
/-! SUPPORT. The decoder on a byte string: what it consumes and what it sees. -/

namespace Sys2Proof

theorem lengthOf_range : ∀ op : Byte, 1 ≤ lengthOf op ∧ lengthOf op ≤ 3 := by
  decide +kernel

/-- Bytes of the length that their first byte asks for, and then others. -/
theorem decode_append {op : Byte} {tail : List Byte} (h : tail.length + 1 = lengthOf op) (rest : List Byte) :
    decode (op :: tail ++ rest) =
      .ok (decodeBytes op ((tail ++ rest).getD 0 0) ((tail ++ rest).getD 1 0), rest) := by
  simp only [List.cons_append, decode]
  rw [if_neg (by simp; omega)]
  have e : lengthOf op - 1 = tail.length := by omega
  rw [e, List.drop_left]

/-- Three bytes are always enough. -/
theorem decode_three (op n1 n2 : Byte) (tail : List Byte) :
    decode (op :: n1 :: n2 :: tail) = .ok (decodeBytes op n1 n2, (n1 :: n2 :: tail).drop (lengthOf op - 1)) := by
  have h := lengthOf_range op
  simp only [decode]
  rw [if_neg (by simp; omega)]
  rfl

end Sys2Proof
end

