-- ==== Sys2Proof/Laws/Exec.lean ====
section
/-! SUPPORT. What `exec` does with the instructions of one shape: one shared operation each. -/

namespace Sys2Proof.Machine

theorem exec_ldRegReg (dst src : Reg8) (s : State) :
    exec (Instr.ldRegReg dst src) s = loadRegReg dst src s := by
  cases dst <;> cases src <;> rfl

theorem exec_ldRegImm (r : Reg8) (n : Byte) (s : State) :
    exec (Instr.ldRegImm r n) s = loadRegImm r n s := by
  cases r <;> rfl

theorem exec_ldRegHl (r : Reg8) (s : State) :
    exec (Instr.ldRegHl r) s = loadRegHl r s := by
  cases r <;> rfl

theorem exec_ldHlReg (r : Reg8) (s : State) :
    exec (Instr.ldHlReg r) s = storeHlReg r s := by
  cases r <;> rfl

theorem exec_incReg (r : Reg8) (s : State) :
    exec (Instr.incReg r) s = incReg r s := by
  cases r <;> rfl

theorem exec_decReg (r : Reg8) (s : State) :
    exec (Instr.decReg r) s = decReg r s := by
  cases r <;> rfl

theorem exec_aluReg (k : AluOp) (r : Reg8) (s : State) :
    exec (Instr.aluReg k r) s = aluOnReg k r s := by
  cases k <;> cases r <;> rfl

theorem exec_aluHl (k : AluOp) (s : State) :
    exec (Instr.aluHl k) s = aluOnHl k s := by
  cases k <;> rfl

theorem exec_aluImm (k : AluOp) (n : Byte) (s : State) :
    exec (Instr.aluImm k n) s = aluOnImm k n s := by
  cases k <;> rfl

theorem exec_ldPairImm (p : Pair) (nn : Word) (s : State) :
    exec (Instr.ldPairImm p nn) s = loadPairImm p nn s := by
  cases p <;> rfl

theorem exec_addHlPair (p : Pair) (s : State) :
    exec (Instr.addHlPair p) s = addHlPair p s := by
  cases p <;> rfl

theorem exec_incPair (p : Pair) (s : State) :
    exec (Instr.incPair p) s = incPair p s := by
  cases p <;> rfl

theorem exec_decPair (p : Pair) (s : State) :
    exec (Instr.decPair p) s = decPair p s := by
  cases p <;> rfl

theorem exec_popPair (p : StackPair) (s : State) :
    exec (Instr.popPair p) s = popInto p s := by
  cases p <;> rfl

theorem exec_pushPair (p : StackPair) (s : State) :
    exec (Instr.pushPair p) s = pushFrom p s := by
  cases p <;> rfl

theorem exec_jrCond (k : Cond) (e : Byte) (s : State) :
    exec (Instr.jrCond k e) s = jumpRelIf k e s := by
  cases k <;> rfl

theorem exec_jpCond (k : Cond) (nn : Word) (s : State) :
    exec (Instr.jpCond k nn) s = jumpIf k nn s := by
  cases k <;> rfl

theorem exec_callCond (k : Cond) (nn : Word) (s : State) :
    exec (Instr.callCond k nn) s = callIf k nn s := by
  cases k <;> rfl

theorem exec_retCond (k : Cond) (s : State) :
    exec (Instr.retCond k) s = returnIf k s := by
  cases k <;> rfl

theorem exec_rst (y : Fin 8) (s : State) :
    exec (Instr.rst y) s = restart (BitVec.ofNat 16 (8 * y.val)) s := by
  fin_cases y <;> rfl

theorem exec_illegal (k : IllegalOpcode) (s : State) :
    exec (Instr.illegal k) s = illegalOpcode k.byte s := by
  cases k <;> rfl

theorem exec_rotReg (k : RotOp) (r : Reg8) (s : State) :
    exec (Instr.rotReg k r) s = rotOnReg k r s := by
  cases k <;> cases r <;> rfl

theorem exec_rotHl (k : RotOp) (s : State) :
    exec (Instr.rotHl k) s = rotOnHl k s := by
  cases k <;> rfl

theorem exec_bitReg (b : Fin 8) (r : Reg8) (s : State) :
    exec (Instr.bitReg b r) s = bitOnReg b r s := by
  cases r <;> fin_cases b <;> rfl

theorem exec_bitHl (b : Fin 8) (s : State) :
    exec (Instr.bitHl b) s = bitOnHl b s := by
  fin_cases b <;> rfl

theorem exec_resReg (b : Fin 8) (r : Reg8) (s : State) :
    exec (Instr.resReg b r) s = resOnReg b r s := by
  cases r <;> fin_cases b <;> rfl

theorem exec_resHl (b : Fin 8) (s : State) :
    exec (Instr.resHl b) s = resOnHl b s := by
  fin_cases b <;> rfl

theorem exec_setReg (b : Fin 8) (r : Reg8) (s : State) :
    exec (Instr.setReg b r) s = setOnReg b r s := by
  cases r <;> fin_cases b <;> rfl

theorem exec_setHl (b : Fin 8) (s : State) :
    exec (Instr.setHl b) s = setOnHl b s := by
  fin_cases b <;> rfl

end Sys2Proof.Machine
end

