-- ==== Sys2Proof/Laws/Ops.lean ====
section
/-! SUPPORT. What each shared operation does, said once: the stack, the results and flags as the rules write them
on numbers, and the frames of the operations that leave the bus alone. -/

namespace Sys2Proof.Machine

/-! ### Registers and pairs -/

/-- A register that is no part of the pair is unchanged by a write of the pair. -/
theorem reg_putPair_ne (s : State) (p : Pair) (v : Word) {q : Reg8} (h : q ∉ pairParts p) :
    (s.putPair p v).reg q = s.reg q := by
  cases p <;> cases q <;> first | rfl | simp [pairParts] at h

@[simp] theorem putPair_f (s : State) (p : Pair) (v : Word) : (s.putPair p v).cpu.f = s.cpu.f := by
  cases p <;> rfl

theorem putPair_sp_ne (s : State) {p : Pair} (v : Word) (h : p ≠ .sp) : (s.putPair p v).cpu.sp = s.cpu.sp := by
  cases p <;> first | rfl | exact absurd rfl h

/-- What one register written and the end of the instruction leave unchanged. -/
theorem SameRegsBut.one {s t : State} {r : Reg8} (hr : ∀ q, q ≠ r → t.reg q = s.reg q)
    (hsp : t.cpu.sp = s.cpu.sp) (hl : SameLatches s t) : SameRegsBut s t [r] :=
  ⟨fun q hq => hr q (by simpa using hq), hsp, hl⟩

theorem SameRegsBut.none {s t : State} (hr : ∀ q, t.reg q = s.reg q) (hsp : t.cpu.sp = s.cpu.sp)
    (hl : SameLatches s t) : SameRegsBut s t [] :=
  ⟨fun q _ => hr q, hsp, hl⟩

/-! ### The stack -/

/-- A push is two bus writes, the high byte first, and SP moves by two. -/
theorem push16_eq (s : State) (v : Word) : s.push16 v =
    ((s.busWrite (s.cpu.sp - 1) (hiByte v)).busWrite (s.cpu.sp - 2) (loByte v)).putSp (s.cpu.sp - 2) := by
  have e : s.cpu.sp - 1 - 1 = s.cpu.sp - 2 := by bv_omega
  simp only [State.push16, busWrite_putSp, putSp_sp, e]
  rfl

/-- A pop moves SP by two and reads the two bytes there. -/
theorem dropTop_eq (s : State) : s.dropTop = s.putSp (s.cpu.sp + 2) := rfl

/-! ### Results and flags on numbers -/

theorem flagsAre_packFlags (z n h c : Bool) : FlagsAre (packFlags z n h c) z n h c := by
  revert z n h c
  decide

/-- The same flags in another form. -/
theorem flagsAre_congr {f g : Byte} {z n h c z' n' h' c' : Bool} (k : FlagsAre g z' n' h' c') (hf : f = g)
    (hz : z = z') (hn : n = n') (hh : h = h') (hc : c = c') : FlagsAre f z n h c := by
  subst hf hz hn hh hc
  exact k

theorem flagsAre_mask_packFlags (z n h c : Bool) : FlagsAre (packFlags z n h c &&& 0xF0) z n h c := by
  rw [packFlags_mask]
  exact flagsAre_packFlags z n h c

theorem add8_spec (a v : Byte) (c : Bool) : AddResult a v c (add8 a v c).1 ((add8 a v c).2 &&& 0xF0) := by
  refine ⟨?_, ?_⟩
  · simp [add8]
  · simp only [add8, gt_iff_lt]
    exact flagsAre_mask_packFlags _ _ _ _

theorem sub8_spec (a v : Byte) (c : Bool) : SubResult a v c (sub8 a v c).1 ((sub8 a v c).2 &&& 0xF0) := by
  refine ⟨?_, ?_⟩
  · simp only [sub8, BitVec.toNat_ofInt]
    have : (0 : Int) ≤ ((a.toNat : Int) - v.toNat - c.toNat) % 256 := Int.emod_nonneg _ (by decide)
    exact Int.toNat_of_nonneg this
  · simp only [sub8]
    exact flagsAre_mask_packFlags _ _ _ _

theorem flagsAre_spRelFlags (sp : Word) (e : Byte) : FlagsAre (spRelFlags sp e &&& 0xF0) false false
    (decide (0x0F < sp.toNat % 16 + e.toNat % 16)) (decide (0xFF < sp.toNat % 256 + e.toNat)) :=
  flagsAre_mask_packFlags _ _ _ _

theorem flagsAre_addHlFlags (a b : Word) (f : Byte) : FlagsAre (addHlFlags a b f &&& 0xF0) (f.getLsbD 7) false
    (decide (0x0FFF < a.toNat % 0x1000 + b.toNat % 0x1000)) (decide (0xFFFF < a.toNat + b.toNat)) :=
  flagsAre_mask_packFlags _ _ _ _

theorem flagsAre_rotFlags (r : Byte × Bool) : FlagsAre (rotFlags r &&& 0xF0) (r.1 == 0) false false r.2 := by
  rw [rotFlags]
  exact flagsAre_mask_packFlags _ _ _ _

theorem flagsAre_rotAFlags (r : Byte × Bool) : FlagsAre (rotAFlags r &&& 0xF0) false false false r.2 :=
  flagsAre_mask_packFlags _ _ _ _

theorem flagsAre_bitFlags (b : Fin 8) (v f : Byte) : FlagsAre (bitFlags b v f &&& 0xF0)
    (decide (v.getLsbD b.val = false)) false true (f.getLsbD 4) := by
  have h : (!v.getLsbD b.val) = decide (v.getLsbD b.val = false) := by
    cases v.getLsbD b.val <;> rfl
  rw [bitFlags, h]
  exact flagsAre_mask_packFlags _ _ _ _

theorem incResult_spec (v f : Byte) : (incResult v f).1.toNat = (v.toNat + 1) % 256 ∧
    FlagsAre ((incResult v f).2 &&& 0xF0) ((incResult v f).1 == 0) false (decide (v.toNat % 16 = 15))
      (f.getLsbD 4) := by
  have h : (v &&& 0x0F == 0x0F) = decide (v.toNat % 16 = 15) := by
    revert v
    decide +kernel
  refine ⟨by simp [incResult, BitVec.toNat_add], ?_⟩
  simp only [incResult, h]
  exact flagsAre_mask_packFlags _ _ _ _

theorem decResult_spec (v f : Byte) : (decResult v f).1.toNat = (v.toNat + 255) % 256 ∧
    FlagsAre ((decResult v f).2 &&& 0xF0) ((decResult v f).1 == 0) true (decide (v.toNat % 16 = 0))
      (f.getLsbD 4) := by
  have h : (v &&& 0x0F == 0x00) = decide (v.toNat % 16 = 0) := by
    revert v
    decide +kernel
  refine ⟨by simp only [decResult]; bv_omega, ?_⟩
  simp only [decResult, h]
  exact flagsAre_mask_packFlags _ _ _ _

/-- The displacement byte as a signed number is its sign extension. -/
theorem toNat_add_sext16 (w : Word) (e : Byte) :
    ((w + sext16 e).toNat : Int) = ((w.toNat : Int) + displacement e) % 0x10000 := by
  have he : (sext16 e).toNat = if e.toNat < 0x80 then e.toNat else e.toNat + 0xFF00 := by
    revert e
    decide +kernel
  rw [BitVec.toNat_add, he]
  unfold displacement
  split <;> omega

theorem rotResult_spec (k : RotOp) (v : Byte) (cy : Bool) :
    (rotResult k v cy).1.toNat = (rotOnNumbers k v.toNat cy.toNat).1 ∧
    (rotResult k v cy).2 = decide ((rotOnNumbers k v.toNat cy.toNat).2 = 1) := by
  revert v
  cases k <;> cases cy <;> decide +kernel

theorem clearBit_spec (b : Fin 8) (v : Byte) (i : Nat) (hi : i < 8) :
    (clearBit b v).getLsbD i = if i = b.val then false else v.getLsbD i := by
  simp only [clearBit, BitVec.getLsbD_and, BitVec.getLsbD_not, BitVec.getLsbD_shiftLeft, hi]
  by_cases h : i = b.val
  · simp [h]
  · rcases Nat.lt_or_gt_of_ne h with hlt | hgt
    · simp [hlt, h]
    · simp [h, show ¬i < b.val by omega, show i - b.val ≠ 0 by omega]

theorem raiseBit_spec (b : Fin 8) (v : Byte) (i : Nat) (hi : i < 8) :
    (raiseBit b v).getLsbD i = if i = b.val then true else v.getLsbD i := by
  simp only [raiseBit, BitVec.getLsbD_or, BitVec.getLsbD_shiftLeft, hi]
  by_cases h : i = b.val
  · simp [h]
  · rcases Nat.lt_or_gt_of_ne h with hlt | hgt
    · simp [hlt, h]
    · simp [h, show ¬i < b.val by omega, show i - b.val ≠ 0 by omega]

theorem condHolds_eq (s : State) (k : Cond) : condHolds k s.cpu.f = s.cond k := by
  cases k <;> simp [condHolds, State.cond, zeroOf, carryOf]

/-- The target of a relative jump on numbers. -/
theorem relTarget_eq (s : State) (e : Byte) : (s.advance 2).relTarget e =
    BitVec.ofInt 16 ((s.cpu.pc.toNat : Int) + 2 + displacement e) := by
  apply BitVec.eq_of_toNat_eq
  have h := toNat_add_sext16 (s.cpu.pc + 2) e
  have h2 : (s.cpu.pc + 2).toNat = (s.cpu.pc.toNat + 2) % 65536 := by simp
  have h3 : (0 : Int) ≤ ((s.cpu.pc.toNat : Int) + 2 + displacement e) % 65536 := Int.emod_nonneg _ (by decide)
  simp only [State.relTarget, advance_pc]
  rw [BitVec.toNat_ofInt]
  apply Int.ofNat_inj.mp
  refine Eq.trans ?_ (Int.toNat_of_nonneg h3).symm
  refine h.trans ?_
  omega

theorem highPage_eq (n : Byte) : highPage n = BitVec.ofNat 16 (0xFF00 + n.toNat) := by
  apply BitVec.eq_of_toNat_eq
  rw [highPage, toNat_joinBytes]
  have := n.isLt
  simp
  omega

/-! ### Logic and decimal adjustment -/

/-- AND, XOR and OR (rules R203 to R211). -/
theorem logic_spec {k : AluOp} (hk : k = .and ∨ k = .xor ∨ k = .or) (a v : Byte) (cy : Bool) :
    LogicResult k a v (aluResult k a v cy).1 ∧
    FlagsAre ((aluResult k a v cy).2 &&& 0xF0) ((aluResult k a v cy).1 == 0) false (decide (k = .and)) false := by
  rcases hk with rfl | rfl | rfl
  all_goals
    refine ⟨fun i hi => ?_, ?_⟩
    · simp [aluResult]
    · simp only [aluResult]
      exact flagsAre_mask_packFlags _ _ _ _

/-- What DAA gives, on numbers, for every A and every flags. -/
theorem daaResult_packFlags : ∀ (a : Byte) (n h c : Bool),
    daaResult a (packFlags false n h c) =
      let adj := (if h = true ∨ (n = false ∧ 9 < a.toNat % 16) then 0x06 else 0) +
        (if c = true ∨ (n = false ∧ 0x99 < a.toNat) then 0x60 else 0)
      let res := BitVec.ofNat 8 (if n then a.toNat + 256 - adj else a.toNat + adj)
      (res, packFlags (res == 0) n false
        (decide ((if c = true ∨ (n = false ∧ 0x99 < a.toNat) then 0x60 else 0) = 0x60))) := by
  decide +kernel

/-- DAA, by its rule on numbers (rule R219). -/
theorem daaResult_spec (a f : Byte) {lowAdj highAdj : Nat} {n h c : Bool}
    (hn : n = f.getLsbD 6) (hh : h = f.getLsbD 5) (hc : c = f.getLsbD 4)
    (hl : lowAdj = (if h = true ∨ (n = false ∧ 9 < a.toNat % 16) then 0x06 else 0))
    (hu : highAdj = (if c = true ∨ (n = false ∧ 0x99 < a.toNat) then 0x60 else 0)) :
    (daaResult a f).1.toNat =
      (if n then a.toNat + 256 - (lowAdj + highAdj) else a.toNat + (lowAdj + highAdj)) % 256 ∧
    FlagsAre ((daaResult a f).2 &&& 0xF0) ((daaResult a f).1 == 0) n false (decide (highAdj = 0x60)) := by
  have e : daaResult a f = daaResult a (packFlags false n h c) := by
    subst hn hh hc
    simp [daaResult, daaAdjust]
    simp [halfOf, subtractOf, carryOf]
  rw [e, daaResult_packFlags, ← hl, ← hu]
  exact ⟨by simp, flagsAre_mask_packFlags _ _ _ _⟩

theorem toNat_packedBcd {n : Nat} (h : n < 100) : (packedBcd n).toNat = n / 10 * 16 + n % 10 := by
  simp only [packedBcd, BitVec.toNat_ofNat]
  omega

end Sys2Proof.Machine
end

