-- ==== Sys2Proof/Laws/Shapes.lean ====
section
/-! SUPPORT. The instructions by shape: what holds of every selector of the decoder, for every operand, and of the
instructions that stand alone, holds of every instruction. -/

namespace Sys2Proof

/-- To prove something of every instruction, prove it of each shape. -/
theorem Instr.byShape {motive : Instr → Prop}
    (ldRegReg : ∀ (dst : Reg8) (src : Reg8), motive (Instr.ldRegReg dst src))
    (ldRegImm : ∀ (r : Reg8) (n : Byte), motive (Instr.ldRegImm r n))
    (ldRegHl : ∀ (r : Reg8), motive (Instr.ldRegHl r))
    (ldHlReg : ∀ (r : Reg8), motive (Instr.ldHlReg r))
    (incReg : ∀ (r : Reg8), motive (Instr.incReg r))
    (decReg : ∀ (r : Reg8), motive (Instr.decReg r))
    (aluReg : ∀ (k : AluOp) (r : Reg8), motive (Instr.aluReg k r))
    (aluHl : ∀ (k : AluOp), motive (Instr.aluHl k))
    (aluImm : ∀ (k : AluOp) (n : Byte), motive (Instr.aluImm k n))
    (ldPairImm : ∀ (p : Pair) (nn : Word), motive (Instr.ldPairImm p nn))
    (addHlPair : ∀ (p : Pair), motive (Instr.addHlPair p))
    (incPair : ∀ (p : Pair), motive (Instr.incPair p))
    (decPair : ∀ (p : Pair), motive (Instr.decPair p))
    (popPair : ∀ (p : StackPair), motive (Instr.popPair p))
    (pushPair : ∀ (p : StackPair), motive (Instr.pushPair p))
    (jrCond : ∀ (cc : Cond) (e : Byte), motive (Instr.jrCond cc e))
    (jpCond : ∀ (cc : Cond) (nn : Word), motive (Instr.jpCond cc nn))
    (callCond : ∀ (cc : Cond) (nn : Word), motive (Instr.callCond cc nn))
    (retCond : ∀ (cc : Cond), motive (Instr.retCond cc))
    (rst : ∀ (y : Fin 8), motive (Instr.rst y))
    (illegal : ∀ (k : IllegalOpcode), motive (Instr.illegal k))
    (rotReg : ∀ (k : RotOp) (r : Reg8), motive (Instr.rotReg k r))
    (rotHl : ∀ (k : RotOp), motive (Instr.rotHl k))
    (bitReg : ∀ (b : Fin 8) (r : Reg8), motive (Instr.bitReg b r))
    (bitHl : ∀ (b : Fin 8), motive (Instr.bitHl b))
    (resReg : ∀ (b : Fin 8) (r : Reg8), motive (Instr.resReg b r))
    (resHl : ∀ (b : Fin 8), motive (Instr.resHl b))
    (setReg : ∀ (b : Fin 8) (r : Reg8), motive (Instr.setReg b r))
    (setHl : ∀ (b : Fin 8), motive (Instr.setHl b))
    (nop : motive Instr.nop)
    (ldIndBcA : motive Instr.ldIndBcA)
    (rlca : motive Instr.rlca)
    (ldIndAbsSp : ∀ (nn : Word), motive (Instr.ldIndAbsSp nn))
    (ldAIndBc : motive Instr.ldAIndBc)
    (rrca : motive Instr.rrca)
    (stop : ∀ (n : Byte), motive (Instr.stop n))
    (ldIndDeA : motive Instr.ldIndDeA)
    (rla : motive Instr.rla)
    (jrRel : ∀ (e : Byte), motive (Instr.jrRel e))
    (ldAIndDe : motive Instr.ldAIndDe)
    (rra : motive Instr.rra)
    (ldIndHlIncA : motive Instr.ldIndHlIncA)
    (daa : motive Instr.daa)
    (ldAIndHlInc : motive Instr.ldAIndHlInc)
    (cpl : motive Instr.cpl)
    (ldIndHlDecA : motive Instr.ldIndHlDecA)
    (incIndHl : motive Instr.incIndHl)
    (decIndHl : motive Instr.decIndHl)
    (ldIndHlImm : ∀ (n : Byte), motive (Instr.ldIndHlImm n))
    (scf : motive Instr.scf)
    (ldAIndHlDec : motive Instr.ldAIndHlDec)
    (ccf : motive Instr.ccf)
    (halt : motive Instr.halt)
    (jpImm : ∀ (nn : Word), motive (Instr.jpImm nn))
    (ret : motive Instr.ret)
    (prefixCb : ∀ (op2 : Byte), motive (Instr.prefixCb op2))
    (callImm : ∀ (nn : Word), motive (Instr.callImm nn))
    (reti : motive Instr.reti)
    (ldhIndImmA : ∀ (n : Byte), motive (Instr.ldhIndImmA n))
    (ldhIndCA : motive Instr.ldhIndCA)
    (addSpRel : ∀ (e : Byte), motive (Instr.addSpRel e))
    (jpHl : motive Instr.jpHl)
    (ldIndAbsA : ∀ (nn : Word), motive (Instr.ldIndAbsA nn))
    (ldhAIndImm : ∀ (n : Byte), motive (Instr.ldhAIndImm n))
    (ldhAIndC : motive Instr.ldhAIndC)
    (di : motive Instr.di)
    (ldHlSpRel : ∀ (e : Byte), motive (Instr.ldHlSpRel e))
    (ldSpHl : motive Instr.ldSpHl)
    (ldAIndAbs : ∀ (nn : Word), motive (Instr.ldAIndAbs nn))
    (ei : motive Instr.ei)
    (i : Instr) : motive i :=
  match i with
  | .nop => nop
  | .ldBcImm nn => ldPairImm .bc nn
  | .ldIndBcA => ldIndBcA
  | .incBc => incPair .bc
  | .incB => incReg .b
  | .decB => decReg .b
  | .ldBImm n => ldRegImm .b n
  | .rlca => rlca
  | .ldIndAbsSp nn => ldIndAbsSp nn
  | .addHlBc => addHlPair .bc
  | .ldAIndBc => ldAIndBc
  | .decBc => decPair .bc
  | .incC => incReg .c
  | .decC => decReg .c
  | .ldCImm n => ldRegImm .c n
  | .rrca => rrca
  | .stop n => stop n
  | .ldDeImm nn => ldPairImm .de nn
  | .ldIndDeA => ldIndDeA
  | .incDe => incPair .de
  | .incD => incReg .d
  | .decD => decReg .d
  | .ldDImm n => ldRegImm .d n
  | .rla => rla
  | .jrRel e => jrRel e
  | .addHlDe => addHlPair .de
  | .ldAIndDe => ldAIndDe
  | .decDe => decPair .de
  | .incE => incReg .e
  | .decE => decReg .e
  | .ldEImm n => ldRegImm .e n
  | .rra => rra
  | .jrNzRel e => jrCond .nz e
  | .ldHlImm nn => ldPairImm .hl nn
  | .ldIndHlIncA => ldIndHlIncA
  | .incHl => incPair .hl
  | .incH => incReg .h
  | .decH => decReg .h
  | .ldHImm n => ldRegImm .h n
  | .daa => daa
  | .jrZRel e => jrCond .z e
  | .addHlHl => addHlPair .hl
  | .ldAIndHlInc => ldAIndHlInc
  | .decHl => decPair .hl
  | .incL => incReg .l
  | .decL => decReg .l
  | .ldLImm n => ldRegImm .l n
  | .cpl => cpl
  | .jrNcRel e => jrCond .nc e
  | .ldSpImm nn => ldPairImm .sp nn
  | .ldIndHlDecA => ldIndHlDecA
  | .incSp => incPair .sp
  | .incIndHl => incIndHl
  | .decIndHl => decIndHl
  | .ldIndHlImm n => ldIndHlImm n
  | .scf => scf
  | .jrCRel e => jrCond .c e
  | .addHlSp => addHlPair .sp
  | .ldAIndHlDec => ldAIndHlDec
  | .decSp => decPair .sp
  | .incA => incReg .a
  | .decA => decReg .a
  | .ldAImm n => ldRegImm .a n
  | .ccf => ccf
  | .ldBB => ldRegReg .b .b
  | .ldBC => ldRegReg .b .c
  | .ldBD => ldRegReg .b .d
  | .ldBE => ldRegReg .b .e
  | .ldBH => ldRegReg .b .h
  | .ldBL => ldRegReg .b .l
  | .ldBIndHl => ldRegHl .b
  | .ldBA => ldRegReg .b .a
  | .ldCB => ldRegReg .c .b
  | .ldCC => ldRegReg .c .c
  | .ldCD => ldRegReg .c .d
  | .ldCE => ldRegReg .c .e
  | .ldCH => ldRegReg .c .h
  | .ldCL => ldRegReg .c .l
  | .ldCIndHl => ldRegHl .c
  | .ldCA => ldRegReg .c .a
  | .ldDB => ldRegReg .d .b
  | .ldDC => ldRegReg .d .c
  | .ldDD => ldRegReg .d .d
  | .ldDE => ldRegReg .d .e
  | .ldDH => ldRegReg .d .h
  | .ldDL => ldRegReg .d .l
  | .ldDIndHl => ldRegHl .d
  | .ldDA => ldRegReg .d .a
  | .ldEB => ldRegReg .e .b
  | .ldEC => ldRegReg .e .c
  | .ldED => ldRegReg .e .d
  | .ldEE => ldRegReg .e .e
  | .ldEH => ldRegReg .e .h
  | .ldEL => ldRegReg .e .l
  | .ldEIndHl => ldRegHl .e
  | .ldEA => ldRegReg .e .a
  | .ldHB => ldRegReg .h .b
  | .ldHC => ldRegReg .h .c
  | .ldHD => ldRegReg .h .d
  | .ldHE => ldRegReg .h .e
  | .ldHH => ldRegReg .h .h
  | .ldHL => ldRegReg .h .l
  | .ldHIndHl => ldRegHl .h
  | .ldHA => ldRegReg .h .a
  | .ldLB => ldRegReg .l .b
  | .ldLC => ldRegReg .l .c
  | .ldLD => ldRegReg .l .d
  | .ldLE => ldRegReg .l .e
  | .ldLH => ldRegReg .l .h
  | .ldLL => ldRegReg .l .l
  | .ldLIndHl => ldRegHl .l
  | .ldLA => ldRegReg .l .a
  | .ldIndHlB => ldHlReg .b
  | .ldIndHlC => ldHlReg .c
  | .ldIndHlD => ldHlReg .d
  | .ldIndHlE => ldHlReg .e
  | .ldIndHlH => ldHlReg .h
  | .ldIndHlL => ldHlReg .l
  | .halt => halt
  | .ldIndHlA => ldHlReg .a
  | .ldAB => ldRegReg .a .b
  | .ldAC => ldRegReg .a .c
  | .ldAD => ldRegReg .a .d
  | .ldAE => ldRegReg .a .e
  | .ldAH => ldRegReg .a .h
  | .ldAL => ldRegReg .a .l
  | .ldAIndHl => ldRegHl .a
  | .ldAA => ldRegReg .a .a
  | .addAB => aluReg .add .b
  | .addAC => aluReg .add .c
  | .addAD => aluReg .add .d
  | .addAE => aluReg .add .e
  | .addAH => aluReg .add .h
  | .addAL => aluReg .add .l
  | .addAIndHl => aluHl .add
  | .addAA => aluReg .add .a
  | .adcAB => aluReg .adc .b
  | .adcAC => aluReg .adc .c
  | .adcAD => aluReg .adc .d
  | .adcAE => aluReg .adc .e
  | .adcAH => aluReg .adc .h
  | .adcAL => aluReg .adc .l
  | .adcAIndHl => aluHl .adc
  | .adcAA => aluReg .adc .a
  | .subB => aluReg .sub .b
  | .subC => aluReg .sub .c
  | .subD => aluReg .sub .d
  | .subE => aluReg .sub .e
  | .subH => aluReg .sub .h
  | .subL => aluReg .sub .l
  | .subIndHl => aluHl .sub
  | .subA => aluReg .sub .a
  | .sbcAB => aluReg .sbc .b
  | .sbcAC => aluReg .sbc .c
  | .sbcAD => aluReg .sbc .d
  | .sbcAE => aluReg .sbc .e
  | .sbcAH => aluReg .sbc .h
  | .sbcAL => aluReg .sbc .l
  | .sbcAIndHl => aluHl .sbc
  | .sbcAA => aluReg .sbc .a
  | .andB => aluReg .and .b
  | .andC => aluReg .and .c
  | .andD => aluReg .and .d
  | .andE => aluReg .and .e
  | .andH => aluReg .and .h
  | .andL => aluReg .and .l
  | .andIndHl => aluHl .and
  | .andA => aluReg .and .a
  | .xorB => aluReg .xor .b
  | .xorC => aluReg .xor .c
  | .xorD => aluReg .xor .d
  | .xorE => aluReg .xor .e
  | .xorH => aluReg .xor .h
  | .xorL => aluReg .xor .l
  | .xorIndHl => aluHl .xor
  | .xorA => aluReg .xor .a
  | .orB => aluReg .or .b
  | .orC => aluReg .or .c
  | .orD => aluReg .or .d
  | .orE => aluReg .or .e
  | .orH => aluReg .or .h
  | .orL => aluReg .or .l
  | .orIndHl => aluHl .or
  | .orA => aluReg .or .a
  | .cpB => aluReg .cp .b
  | .cpC => aluReg .cp .c
  | .cpD => aluReg .cp .d
  | .cpE => aluReg .cp .e
  | .cpH => aluReg .cp .h
  | .cpL => aluReg .cp .l
  | .cpIndHl => aluHl .cp
  | .cpA => aluReg .cp .a
  | .retNz => retCond .nz
  | .popBc => popPair .bc
  | .jpNzImm nn => jpCond .nz nn
  | .jpImm nn => jpImm nn
  | .callNzImm nn => callCond .nz nn
  | .pushBc => pushPair .bc
  | .addAImm n => aluImm .add n
  | .rst00 => rst 0
  | .retZ => retCond .z
  | .ret => ret
  | .jpZImm nn => jpCond .z nn
  | .prefixCb op2 => prefixCb op2
  | .callZImm nn => callCond .z nn
  | .callImm nn => callImm nn
  | .adcAImm n => aluImm .adc n
  | .rst08 => rst 1
  | .retNc => retCond .nc
  | .popDe => popPair .de
  | .jpNcImm nn => jpCond .nc nn
  | .illegalD3 => illegal .xD3
  | .callNcImm nn => callCond .nc nn
  | .pushDe => pushPair .de
  | .subImm n => aluImm .sub n
  | .rst10 => rst 2
  | .retC => retCond .c
  | .reti => reti
  | .jpCImm nn => jpCond .c nn
  | .illegalDB => illegal .xDB
  | .callCImm nn => callCond .c nn
  | .illegalDD => illegal .xDD
  | .sbcAImm n => aluImm .sbc n
  | .rst18 => rst 3
  | .ldhIndImmA n => ldhIndImmA n
  | .popHl => popPair .hl
  | .ldhIndCA => ldhIndCA
  | .illegalE3 => illegal .xE3
  | .illegalE4 => illegal .xE4
  | .pushHl => pushPair .hl
  | .andImm n => aluImm .and n
  | .rst20 => rst 4
  | .addSpRel e => addSpRel e
  | .jpHl => jpHl
  | .ldIndAbsA nn => ldIndAbsA nn
  | .illegalEB => illegal .xEB
  | .illegalEC => illegal .xEC
  | .illegalED => illegal .xED
  | .xorImm n => aluImm .xor n
  | .rst28 => rst 5
  | .ldhAIndImm n => ldhAIndImm n
  | .popAf => popPair .af
  | .ldhAIndC => ldhAIndC
  | .di => di
  | .illegalF4 => illegal .xF4
  | .pushAf => pushPair .af
  | .orImm n => aluImm .or n
  | .rst30 => rst 6
  | .ldHlSpRel e => ldHlSpRel e
  | .ldSpHl => ldSpHl
  | .ldAIndAbs nn => ldAIndAbs nn
  | .ei => ei
  | .illegalFC => illegal .xFC
  | .illegalFD => illegal .xFD
  | .cpImm n => aluImm .cp n
  | .rst38 => rst 7
  | .rlcB => rotReg .rlc .b
  | .rlcC => rotReg .rlc .c
  | .rlcD => rotReg .rlc .d
  | .rlcE => rotReg .rlc .e
  | .rlcH => rotReg .rlc .h
  | .rlcL => rotReg .rlc .l
  | .rlcIndHl => rotHl .rlc
  | .rlcA => rotReg .rlc .a
  | .rrcB => rotReg .rrc .b
  | .rrcC => rotReg .rrc .c
  | .rrcD => rotReg .rrc .d
  | .rrcE => rotReg .rrc .e
  | .rrcH => rotReg .rrc .h
  | .rrcL => rotReg .rrc .l
  | .rrcIndHl => rotHl .rrc
  | .rrcA => rotReg .rrc .a
  | .rlB => rotReg .rl .b
  | .rlC => rotReg .rl .c
  | .rlD => rotReg .rl .d
  | .rlE => rotReg .rl .e
  | .rlH => rotReg .rl .h
  | .rlL => rotReg .rl .l
  | .rlIndHl => rotHl .rl
  | .rlA => rotReg .rl .a
  | .rrB => rotReg .rr .b
  | .rrC => rotReg .rr .c
  | .rrD => rotReg .rr .d
  | .rrE => rotReg .rr .e
  | .rrH => rotReg .rr .h
  | .rrL => rotReg .rr .l
  | .rrIndHl => rotHl .rr
  | .rrA => rotReg .rr .a
  | .slaB => rotReg .sla .b
  | .slaC => rotReg .sla .c
  | .slaD => rotReg .sla .d
  | .slaE => rotReg .sla .e
  | .slaH => rotReg .sla .h
  | .slaL => rotReg .sla .l
  | .slaIndHl => rotHl .sla
  | .slaA => rotReg .sla .a
  | .sraB => rotReg .sra .b
  | .sraC => rotReg .sra .c
  | .sraD => rotReg .sra .d
  | .sraE => rotReg .sra .e
  | .sraH => rotReg .sra .h
  | .sraL => rotReg .sra .l
  | .sraIndHl => rotHl .sra
  | .sraA => rotReg .sra .a
  | .swapB => rotReg .swap .b
  | .swapC => rotReg .swap .c
  | .swapD => rotReg .swap .d
  | .swapE => rotReg .swap .e
  | .swapH => rotReg .swap .h
  | .swapL => rotReg .swap .l
  | .swapIndHl => rotHl .swap
  | .swapA => rotReg .swap .a
  | .srlB => rotReg .srl .b
  | .srlC => rotReg .srl .c
  | .srlD => rotReg .srl .d
  | .srlE => rotReg .srl .e
  | .srlH => rotReg .srl .h
  | .srlL => rotReg .srl .l
  | .srlIndHl => rotHl .srl
  | .srlA => rotReg .srl .a
  | .bit0B => bitReg 0 .b
  | .bit0C => bitReg 0 .c
  | .bit0D => bitReg 0 .d
  | .bit0E => bitReg 0 .e
  | .bit0H => bitReg 0 .h
  | .bit0L => bitReg 0 .l
  | .bit0IndHl => bitHl 0
  | .bit0A => bitReg 0 .a
  | .bit1B => bitReg 1 .b
  | .bit1C => bitReg 1 .c
  | .bit1D => bitReg 1 .d
  | .bit1E => bitReg 1 .e
  | .bit1H => bitReg 1 .h
  | .bit1L => bitReg 1 .l
  | .bit1IndHl => bitHl 1
  | .bit1A => bitReg 1 .a
  | .bit2B => bitReg 2 .b
  | .bit2C => bitReg 2 .c
  | .bit2D => bitReg 2 .d
  | .bit2E => bitReg 2 .e
  | .bit2H => bitReg 2 .h
  | .bit2L => bitReg 2 .l
  | .bit2IndHl => bitHl 2
  | .bit2A => bitReg 2 .a
  | .bit3B => bitReg 3 .b
  | .bit3C => bitReg 3 .c
  | .bit3D => bitReg 3 .d
  | .bit3E => bitReg 3 .e
  | .bit3H => bitReg 3 .h
  | .bit3L => bitReg 3 .l
  | .bit3IndHl => bitHl 3
  | .bit3A => bitReg 3 .a
  | .bit4B => bitReg 4 .b
  | .bit4C => bitReg 4 .c
  | .bit4D => bitReg 4 .d
  | .bit4E => bitReg 4 .e
  | .bit4H => bitReg 4 .h
  | .bit4L => bitReg 4 .l
  | .bit4IndHl => bitHl 4
  | .bit4A => bitReg 4 .a
  | .bit5B => bitReg 5 .b
  | .bit5C => bitReg 5 .c
  | .bit5D => bitReg 5 .d
  | .bit5E => bitReg 5 .e
  | .bit5H => bitReg 5 .h
  | .bit5L => bitReg 5 .l
  | .bit5IndHl => bitHl 5
  | .bit5A => bitReg 5 .a
  | .bit6B => bitReg 6 .b
  | .bit6C => bitReg 6 .c
  | .bit6D => bitReg 6 .d
  | .bit6E => bitReg 6 .e
  | .bit6H => bitReg 6 .h
  | .bit6L => bitReg 6 .l
  | .bit6IndHl => bitHl 6
  | .bit6A => bitReg 6 .a
  | .bit7B => bitReg 7 .b
  | .bit7C => bitReg 7 .c
  | .bit7D => bitReg 7 .d
  | .bit7E => bitReg 7 .e
  | .bit7H => bitReg 7 .h
  | .bit7L => bitReg 7 .l
  | .bit7IndHl => bitHl 7
  | .bit7A => bitReg 7 .a
  | .res0B => resReg 0 .b
  | .res0C => resReg 0 .c
  | .res0D => resReg 0 .d
  | .res0E => resReg 0 .e
  | .res0H => resReg 0 .h
  | .res0L => resReg 0 .l
  | .res0IndHl => resHl 0
  | .res0A => resReg 0 .a
  | .res1B => resReg 1 .b
  | .res1C => resReg 1 .c
  | .res1D => resReg 1 .d
  | .res1E => resReg 1 .e
  | .res1H => resReg 1 .h
  | .res1L => resReg 1 .l
  | .res1IndHl => resHl 1
  | .res1A => resReg 1 .a
  | .res2B => resReg 2 .b
  | .res2C => resReg 2 .c
  | .res2D => resReg 2 .d
  | .res2E => resReg 2 .e
  | .res2H => resReg 2 .h
  | .res2L => resReg 2 .l
  | .res2IndHl => resHl 2
  | .res2A => resReg 2 .a
  | .res3B => resReg 3 .b
  | .res3C => resReg 3 .c
  | .res3D => resReg 3 .d
  | .res3E => resReg 3 .e
  | .res3H => resReg 3 .h
  | .res3L => resReg 3 .l
  | .res3IndHl => resHl 3
  | .res3A => resReg 3 .a
  | .res4B => resReg 4 .b
  | .res4C => resReg 4 .c
  | .res4D => resReg 4 .d
  | .res4E => resReg 4 .e
  | .res4H => resReg 4 .h
  | .res4L => resReg 4 .l
  | .res4IndHl => resHl 4
  | .res4A => resReg 4 .a
  | .res5B => resReg 5 .b
  | .res5C => resReg 5 .c
  | .res5D => resReg 5 .d
  | .res5E => resReg 5 .e
  | .res5H => resReg 5 .h
  | .res5L => resReg 5 .l
  | .res5IndHl => resHl 5
  | .res5A => resReg 5 .a
  | .res6B => resReg 6 .b
  | .res6C => resReg 6 .c
  | .res6D => resReg 6 .d
  | .res6E => resReg 6 .e
  | .res6H => resReg 6 .h
  | .res6L => resReg 6 .l
  | .res6IndHl => resHl 6
  | .res6A => resReg 6 .a
  | .res7B => resReg 7 .b
  | .res7C => resReg 7 .c
  | .res7D => resReg 7 .d
  | .res7E => resReg 7 .e
  | .res7H => resReg 7 .h
  | .res7L => resReg 7 .l
  | .res7IndHl => resHl 7
  | .res7A => resReg 7 .a
  | .set0B => setReg 0 .b
  | .set0C => setReg 0 .c
  | .set0D => setReg 0 .d
  | .set0E => setReg 0 .e
  | .set0H => setReg 0 .h
  | .set0L => setReg 0 .l
  | .set0IndHl => setHl 0
  | .set0A => setReg 0 .a
  | .set1B => setReg 1 .b
  | .set1C => setReg 1 .c
  | .set1D => setReg 1 .d
  | .set1E => setReg 1 .e
  | .set1H => setReg 1 .h
  | .set1L => setReg 1 .l
  | .set1IndHl => setHl 1
  | .set1A => setReg 1 .a
  | .set2B => setReg 2 .b
  | .set2C => setReg 2 .c
  | .set2D => setReg 2 .d
  | .set2E => setReg 2 .e
  | .set2H => setReg 2 .h
  | .set2L => setReg 2 .l
  | .set2IndHl => setHl 2
  | .set2A => setReg 2 .a
  | .set3B => setReg 3 .b
  | .set3C => setReg 3 .c
  | .set3D => setReg 3 .d
  | .set3E => setReg 3 .e
  | .set3H => setReg 3 .h
  | .set3L => setReg 3 .l
  | .set3IndHl => setHl 3
  | .set3A => setReg 3 .a
  | .set4B => setReg 4 .b
  | .set4C => setReg 4 .c
  | .set4D => setReg 4 .d
  | .set4E => setReg 4 .e
  | .set4H => setReg 4 .h
  | .set4L => setReg 4 .l
  | .set4IndHl => setHl 4
  | .set4A => setReg 4 .a
  | .set5B => setReg 5 .b
  | .set5C => setReg 5 .c
  | .set5D => setReg 5 .d
  | .set5E => setReg 5 .e
  | .set5H => setReg 5 .h
  | .set5L => setReg 5 .l
  | .set5IndHl => setHl 5
  | .set5A => setReg 5 .a
  | .set6B => setReg 6 .b
  | .set6C => setReg 6 .c
  | .set6D => setReg 6 .d
  | .set6E => setReg 6 .e
  | .set6H => setReg 6 .h
  | .set6L => setReg 6 .l
  | .set6IndHl => setHl 6
  | .set6A => setReg 6 .a
  | .set7B => setReg 7 .b
  | .set7C => setReg 7 .c
  | .set7D => setReg 7 .d
  | .set7E => setReg 7 .e
  | .set7H => setReg 7 .h
  | .set7L => setReg 7 .l
  | .set7IndHl => setHl 7
  | .set7A => setReg 7 .a

end Sys2Proof
end

