-- ==== Sys2Proof/Laws/Effect.lean ====
section
/-! SUPPORT. Everything an instruction can do, said once: outside the CPU it makes at most two bus writes; it
returns 4 to 24 ticks; it keeps the low nibble of F zero; it never touches `dead`; no instruction is refused, and
only STOP and the illegal opcodes end in an outcome. -/

namespace Sys2Proof.Machine

/-- What an instruction that answers a next state can have done. -/
structure ExecEffect (s t : State) : Prop where
  outside : SameOutsideCpu s t ∨ (∃ a v, SameOutsideCpu (s.busWrite a v) t) ∨
    ∃ a v b w, SameOutsideCpu ((s.busWrite a v).busWrite b w) t
  ticks : t.cycles ∈ [4, 8, 12, 16, 20, 24]
  dead : t.cpu.dead = s.cpu.dead
  flags : t.cpu.f = s.cpu.f ∨ t.cpu.f &&& 0x0F = 0
  latches : t.cpu.halted = s.cpu.halted ∨ t.cpu.imePending = s.cpu.imePending

/-- An outcome is a next state, and an instruction can have done that. -/
def EffectOf (s : State) (o : StepOutcome) : Prop :=
  match o with
  | .next t => ExecEffect s t
  | .fault _ => False
  | .refused _ => False

/-- An instruction that leaves the bus alone. -/
theorem effect_none {s t : State} {n : Nat} (ho : SameOutsideCpu s t) (hn : n ∈ [4, 8, 12, 16, 20, 24])
    (hd : t.cpu.dead = s.cpu.dead) (hf : t.cpu.f = s.cpu.f ∨ t.cpu.f &&& 0x0F = 0)
    (hl : t.cpu.halted = s.cpu.halted ∨ t.cpu.imePending = s.cpu.imePending) : EffectOf s (t.done n) :=
  ⟨.inl (ho.trans (.of_fields rfl rfl rfl rfl rfl rfl rfl rfl rfl rfl)), hn, hd, hf, hl⟩

/-- An instruction that writes the bus once. -/
theorem effect_one {s t : State} {n : Nat} (a : Word) (v : Byte) (ho : SameOutsideCpu (s.busWrite a v) t)
    (hn : n ∈ [4, 8, 12, 16, 20, 24]) (hd : t.cpu.dead = s.cpu.dead)
    (hf : t.cpu.f = s.cpu.f ∨ t.cpu.f &&& 0x0F = 0) (hl : t.cpu.halted = s.cpu.halted) :
    EffectOf s (t.done n) :=
  ⟨.inr (.inl ⟨a, v, ho.trans (.of_fields rfl rfl rfl rfl rfl rfl rfl rfl rfl rfl)⟩), hn, hd, hf, .inl hl⟩

/-- An instruction that pushes a word and jumps. -/
theorem effect_push (s : State) (k : Nat) (v : Word) (target : Word) {n : Nat}
    (hn : n ∈ [4, 8, 12, 16, 20, 24]) : EffectOf s ((((s.advance k).push16 v).putPc target).done n) := by
  refine ⟨.inr (.inr ⟨s.cpu.sp - 1, hiByte v, s.cpu.sp - 2, loByte v, ?_⟩), hn, ?_, .inl ?_, .inl ?_⟩ <;>
    simp [push16_eq, sameOutside_iff]

theorem accumulate_f (s : State) (k : AluOp) (v : Byte) : (s.accumulate k v).cpu.f &&& 0x0F = 0 := mask_low _

theorem putF_low (s : State) (v : Byte) : (s.putF v).cpu.f &&& 0x0F = 0 := mask_low v

/-! One lemma for each shared operation that several instructions are. -/

theorem effect_accumulate (s : State) (k : AluOp) (v : Byte) (j : Nat) {n : Nat}
    (hn : n ∈ [4, 8, 12, 16, 20, 24]) : EffectOf s (((s.advance j).accumulate k v).done n) := by
  refine effect_none ?_ hn ?_ (.inr (mask_low _)) (.inl ?_) <;> simp [State.accumulate, sameOutside_iff]

theorem effect_putReg (s : State) (r : Reg8) (v : Byte) (j : Nat) {n : Nat}
    (hn : n ∈ [4, 8, 12, 16, 20, 24]) : EffectOf s (((s.advance j).putReg r v).done n) := by
  refine effect_none ?_ hn ?_ (.inl ?_) (.inl ?_) <;> simp [sameOutside_iff]

theorem effect_putRegF (s : State) (r : Reg8) (v f : Byte) (j : Nat) {n : Nat}
    (hn : n ∈ [4, 8, 12, 16, 20, 24]) : EffectOf s ((((s.advance j).putReg r v).putF f).done n) := by
  refine effect_none ?_ hn ?_ (.inr (mask_low _)) (.inl ?_) <;> simp [sameOutside_iff]

theorem effect_putF (s : State) (f : Byte) (j : Nat) {n : Nat}
    (hn : n ∈ [4, 8, 12, 16, 20, 24]) : EffectOf s (((s.advance j).putF f).done n) := by
  refine effect_none ?_ hn ?_ (.inr (mask_low _)) (.inl ?_) <;> simp [sameOutside_iff]

theorem effect_putPair (s : State) (p : Pair) (v : Word) (j : Nat) {n : Nat}
    (hn : n ∈ [4, 8, 12, 16, 20, 24]) : EffectOf s (((s.advance j).putPair p v).done n) := by
  refine effect_none ?_ hn ?_ (.inl ?_) (.inl ?_) <;> simp [sameOutside_iff]

theorem effect_putPc (s : State) (v : Word) (j : Nat) {n : Nat}
    (hn : n ∈ [4, 8, 12, 16, 20, 24]) : EffectOf s (((s.advance j).putPc v).done n) := by
  refine effect_none ?_ hn ?_ (.inl ?_) (.inl ?_) <;> simp [sameOutside_iff]

theorem effect_pop (s : State) (v : Word) (j : Nat) {n : Nat}
    (hn : n ∈ [4, 8, 12, 16, 20, 24]) : EffectOf s (((s.advance j).dropTop.putPc v).done n) := by
  refine effect_none ?_ hn ?_ (.inl ?_) (.inl ?_) <;> simp [dropTop_eq, sameOutside_iff]

theorem effect_advance (s : State) (j : Nat) {n : Nat}
    (hn : n ∈ [4, 8, 12, 16, 20, 24]) : EffectOf s ((s.advance j).done n) := by
  refine effect_none ?_ hn ?_ (.inl ?_) (.inl ?_) <;> simp [sameOutside_iff]

theorem effect_store (s : State) (a : Word) (v : Byte) (j : Nat) {n : Nat}
    (hn : n ∈ [4, 8, 12, 16, 20, 24]) : EffectOf s (((s.advance j).busWrite a v).done n) := by
  refine effect_one a v ?_ hn ?_ (.inl ?_) ?_ <;> simp [sameOutside_iff]

theorem effect_storeF (s : State) (a : Word) (v f : Byte) (j : Nat) {n : Nat}
    (hn : n ∈ [4, 8, 12, 16, 20, 24]) : EffectOf s ((((s.advance j).busWrite a v).putF f).done n) := by
  refine effect_one a v ?_ hn ?_ (.inr (mask_low _)) ?_ <;> simp [sameOutside_iff]

theorem effect_bitOps (s : State) (b : Fin 8) (r : Reg8) :
    EffectOf s (bitOnReg b r s) ∧ EffectOf s (bitOnHl b s) ∧ EffectOf s (resOnReg b r s) ∧
    EffectOf s (resOnHl b s) ∧ EffectOf s (setOnReg b r s) ∧ EffectOf s (setOnHl b s) :=
  ⟨effect_putF s _ 2 (by decide), effect_putF s _ 2 (by decide), effect_putReg s _ _ 2 (by decide),
    effect_store s _ _ 2 (by decide), effect_putReg s _ _ 2 (by decide), effect_store s _ _ 2 (by decide)⟩

theorem effect_extended (op2 : Byte) (s : State) : EffectOf s (extendedEntry op2 s) := by
  have rr : ∀ k r, EffectOf s (rotOnReg k r s) := fun k r => effect_putRegF s r _ _ 2 (by decide)
  have rh : ∀ k, EffectOf s (rotOnHl k s) := fun k => effect_storeF s _ _ _ 2 (by decide)
  have hb := effect_bitOps s
  unfold extendedEntry
  split
  · exact rr _ _
  · exact rh _
  · exact (hb _ _).1
  · exact (hb _ .b).2.1
  · exact (hb _ _).2.2.1
  · exact (hb _ .b).2.2.2.1
  · exact (hb _ _).2.2.2.2.1
  · exact (hb _ .b).2.2.2.2.2

/-- Every instruction but STOP, and the illegal opcodes under the policy `fatal`, answers a next state. -/
theorem exec_completes {i : Instr} {s : State} (hs : ∀ n, i ≠ .stop n)
    (hi : ∀ k, i = Instr.illegal k → s.policy = .nop) : EffectOf s (exec i s) := by
  induction i using Instr.byShape
  case ldRegReg => rw [exec_ldRegReg]; exact effect_putReg s _ _ 1 (by decide)
  case ldRegImm => rw [exec_ldRegImm]; exact effect_putReg s _ _ 2 (by decide)
  case ldRegHl => rw [exec_ldRegHl]; exact effect_putReg s _ _ 1 (by decide)
  case ldHlReg => rw [exec_ldHlReg]; exact effect_store s _ _ 1 (by decide)
  case incReg => rw [exec_incReg]; exact effect_putRegF s _ _ _ 1 (by decide)
  case decReg => rw [exec_decReg]; exact effect_putRegF s _ _ _ 1 (by decide)
  case aluReg => rw [exec_aluReg]; exact effect_accumulate s _ _ 1 (by decide)
  case aluHl => rw [exec_aluHl]; exact effect_accumulate s _ _ 1 (by decide)
  case aluImm => rw [exec_aluImm]; exact effect_accumulate s _ _ 2 (by decide)
  case ldPairImm => rw [exec_ldPairImm]; exact effect_putPair s _ _ 3 (by decide)
  case addHlPair =>
    rw [exec_addHlPair]
    refine effect_none ?_ (by decide) ?_ (.inr (mask_low _)) (.inl ?_) <;> simp [sameOutside_iff]
  case incPair => rw [exec_incPair]; exact effect_putPair s _ _ 1 (by decide)
  case decPair => rw [exec_decPair]; exact effect_putPair s _ _ 1 (by decide)
  case popPair p =>
    rw [exec_popPair]
    refine effect_none ?_ (by decide) ?_ ?_ (.inl ?_)
    case refine_3 => cases p <;> first | exact .inl rfl | exact .inr (mask_low _)
    all_goals simp [dropTop_eq, sameOutside_iff]
  case pushPair p =>
    rw [exec_pushPair]
    refine ⟨.inr (.inr ⟨s.cpu.sp - 1, hiByte (s.stackPair p), s.cpu.sp - 2, loByte (s.stackPair p), ?_⟩),
      by simp, ?_, .inl ?_, .inl ?_⟩ <;>
      simp [push16_eq, sameOutside_iff]
  case jrCond =>
    rw [exec_jrCond]
    dsimp only [jumpRelIf]
    split
    · exact effect_putPc s _ 2 (by decide)
    · exact effect_advance s 2 (by decide)
  case jpCond =>
    rw [exec_jpCond]
    dsimp only [jumpIf]
    split
    · exact effect_putPc s _ 3 (by decide)
    · exact effect_advance s 3 (by decide)
  case callCond =>
    rw [exec_callCond]
    dsimp only [callIf]
    split
    · exact effect_push s 3 _ _ (by decide)
    · exact effect_advance s 3 (by decide)
  case retCond =>
    rw [exec_retCond]
    dsimp only [returnIf]
    split
    · exact effect_pop s _ 1 (by decide)
    · exact effect_advance s 1 (by decide)
  case rst => rw [exec_rst]; exact effect_push s 1 _ _ (by decide)
  case illegal k =>
    rw [exec_illegal, illegalOpcode, hi k rfl]
    exact effect_advance s 1 (by decide)
  case rotReg => rw [exec_rotReg]; exact effect_putRegF s _ _ _ 2 (by decide)
  case rotHl => rw [exec_rotHl]; exact effect_storeF s _ _ _ 2 (by decide)
  case bitReg => rw [exec_bitReg]; exact (effect_bitOps s _ _).1
  case bitHl => rw [exec_bitHl]; exact (effect_bitOps s _ .b).2.1
  case resReg => rw [exec_resReg]; exact (effect_bitOps s _ _).2.2.1
  case resHl => rw [exec_resHl]; exact (effect_bitOps s _ .b).2.2.2.1
  case setReg => rw [exec_setReg]; exact (effect_bitOps s _ _).2.2.2.2.1
  case setHl => rw [exec_setHl]; exact (effect_bitOps s _ .b).2.2.2.2.2
  case nop => exact effect_advance s 1 (by decide)
  case ldIndBcA => exact effect_store s _ _ 1 (by decide)
  case ldIndDeA => exact effect_store s _ _ 1 (by decide)
  case ldhIndCA => exact effect_store s _ _ 1 (by decide)
  case ldhIndImmA => exact effect_store s _ _ 2 (by decide)
  case ldIndAbsA => exact effect_store s _ _ 3 (by decide)
  case ldIndHlImm => exact effect_store s _ _ 2 (by decide)
  case rlca => exact effect_putRegF s _ _ _ 1 (by decide)
  case rrca => exact effect_putRegF s _ _ _ 1 (by decide)
  case rla => exact effect_putRegF s _ _ _ 1 (by decide)
  case rra => exact effect_putRegF s _ _ _ 1 (by decide)
  case daa => exact effect_putRegF s _ _ _ 1 (by decide)
  case cpl => exact effect_putRegF s _ _ _ 1 (by decide)
  case scf => exact effect_putF s _ 1 (by decide)
  case ccf => exact effect_putF s _ 1 (by decide)
  case ldAIndBc => exact effect_putReg s _ _ 1 (by decide)
  case ldAIndDe => exact effect_putReg s _ _ 1 (by decide)
  case ldhAIndC => exact effect_putReg s _ _ 1 (by decide)
  case ldhAIndImm => exact effect_putReg s _ _ 2 (by decide)
  case ldAIndAbs => exact effect_putReg s _ _ 3 (by decide)
  case ldIndAbsSp nn =>
    refine ⟨.inr (.inr ⟨nn, loByte s.cpu.sp, nn + 1, hiByte s.cpu.sp, ?_⟩), by simp, ?_, .inl ?_, .inl ?_⟩ <;>
      simp [sameOutside_iff]
  case ldIndHlIncA =>
    refine effect_one s.hl s.cpu.a ?_ (by decide) ?_ (.inl ?_) ?_ <;> simp [State.storeHl, sameOutside_iff]
  case ldIndHlDecA =>
    refine effect_one s.hl s.cpu.a ?_ (by decide) ?_ (.inl ?_) ?_ <;> simp [State.storeHl, sameOutside_iff]
  case ldAIndHlInc =>
    refine effect_none ?_ (by decide) ?_ (.inl ?_) (.inl ?_) <;> simp [sameOutside_iff]
  case ldAIndHlDec =>
    refine effect_none ?_ (by decide) ?_ (.inl ?_) (.inl ?_) <;> simp [sameOutside_iff]
  case incIndHl => exact effect_storeF s _ _ _ 1 (by decide)
  case decIndHl => exact effect_storeF s _ _ _ 1 (by decide)
  case ldHlSpRel =>
    refine effect_none ?_ (by decide) ?_ (.inr (mask_low _)) (.inl ?_) <;> simp [sameOutside_iff]
  case ldSpHl => refine effect_none ?_ (by decide) ?_ (.inl ?_) (.inl ?_) <;> simp [sameOutside_iff]
  case addSpRel =>
    refine effect_none ?_ (by decide) ?_ (.inr (mask_low _)) (.inl ?_) <;> simp [sameOutside_iff]
  case jrRel => exact effect_putPc s _ 2 (by decide)
  case jpImm => exact effect_putPc s _ 3 (by decide)
  case jpHl => exact effect_putPc s _ 1 (by decide)
  case callImm => exact effect_push s 3 _ _ (by decide)
  case ret => exact effect_pop s _ 1 (by decide)
  case reti =>
    refine effect_none ?_ (by decide) ?_ (.inl ?_) (.inl ?_) <;>
      simp [State.returnFromInterrupt, dropTop_eq, sameOutside_iff]
  case prefixCb op2 => exact effect_extended op2 s
  case stop n => exact absurd rfl (hs n)
  case halt => exact effect_none (.of_fields rfl rfl rfl rfl rfl rfl rfl rfl rfl rfl) (by decide) rfl (.inl rfl) (.inr rfl)
  case di => exact effect_none (.of_fields rfl rfl rfl rfl rfl rfl rfl rfl rfl rfl) (by decide) rfl (.inl rfl) (.inl rfl)
  case ei => exact effect_none (.of_fields rfl rfl rfl rfl rfl rfl rfl rfl rfl rfl) (by decide) rfl (.inl rfl) (.inl rfl)

/-- Everything an instruction can end in. -/
theorem exec_cases (i : Instr) (s : State) :
    (∃ t, exec i s = .next t ∧ ExecEffect s t) ∨
    (∃ n, i = .stop n ∧ exec i s = .fault (.stop s.cpu.pc)) ∨
    ∃ k, i = Instr.illegal k ∧ s.policy = .fatal ∧ exec i s = .fault (.decodeError k.byte s.cpu.pc) := by
  by_cases hs : ∃ n, i = .stop n
  · obtain ⟨n, rfl⟩ := hs
    exact .inr (.inl ⟨n, rfl, rfl⟩)
  by_cases hi : ∃ k, i = Instr.illegal k ∧ s.policy = .fatal
  · obtain ⟨k, rfl, hp⟩ := hi
    exact .inr (.inr ⟨k, rfl, hp, by rw [exec_illegal, illegalOpcode, hp]⟩)
  refine .inl ?_
  have h := exec_completes (i := i) (s := s) (fun n e => hs ⟨n, e⟩) (fun k e => by
    cases hp : s.policy
    · exact absurd ⟨k, e, hp⟩ hi
    · rfl)
  cases ho : exec i s <;> rw [ho] at h
  · exact ⟨_, rfl, h⟩
  · exact h.elim
  · exact h.elim

/-- What a next state says. -/
theorem exec_effect {i : Instr} {s t : State} (h : exec i s = .next t) : ExecEffect s t := by
  rcases exec_cases i s with ⟨u, hu, e⟩ | ⟨n, -, hf⟩ | ⟨k, -, -, hf⟩
  · rw [h] at hu
    cases hu
    exact e
  · rw [h] at hf; cases hf
  · rw [h] at hf; cases hf

/-- No instruction is refused. -/
theorem exec_not_refused (i : Instr) (s : State) (r : Refusal) : exec i s ≠ .refused r := by
  intro h
  rcases exec_cases i s with ⟨u, hu, -⟩ | ⟨n, -, hf⟩ | ⟨k, -, -, hf⟩
  · rw [h] at hu; cases hu
  · rw [h] at hf; cases hf
  · rw [h] at hf; cases hf

end Sys2Proof.Machine
end

