-- ==== Sys2Proof/Laws/Interrupts.lean ====
section
/-! SUPPORT. The interrupt controller bit by bit, the priority encoder, and the service sequence. -/

namespace Sys2Proof.Machine

theorem pend_bit (q : Irq) (j : Nat) : q.pend.getLsbD j = (q.ie5.getLsbD j && q.if5.getLsbD j) := by
  simp [Irq.pend]

/-- A source is pending iff one bit is set in both sets. -/
theorem isPending_iff (q : Irq) :
    q.isPending = true ↔ ∃ j : Nat, j < 5 ∧ q.ie5.getLsbD j = true ∧ q.if5.getLsbD j = true := by
  have h : ∀ v : BitVec 5, (v != 0) = true ↔ ∃ j : Nat, j < 5 ∧ v.getLsbD j = true := by decide
  rw [Irq.isPending, h]
  simp only [pend_bit, Bool.and_eq_true]

/-- The encoder on a pending set. -/
theorem encoder_table : ∀ (v : BitVec 5) (k : IrqSource),
    ((if v.getLsbD 0 then some IrqSource.vblank
      else if v.getLsbD 1 then some .stat
      else if v.getLsbD 2 then some .timer
      else if v.getLsbD 3 then some .serial
      else if v.getLsbD 4 then some .joypad
      else none) = some k) ↔ (v.getLsbD k.bit = true ∧ ∀ j : Nat, j < k.bit → ¬v.getLsbD j = true) := by
  intro v k
  revert v
  cases k <;> decide

theorem highest_iff (q : Irq) (k : IrqSource) : q.highestPriorityPending = some k ↔
    q.ie5.getLsbD k.bit = true ∧ q.if5.getLsbD k.bit = true ∧
      ∀ j : Nat, j < k.bit → ¬(q.ie5.getLsbD j = true ∧ q.if5.getLsbD j = true) := by
  have e : ∀ j, (q.ie5.getLsbD j = true ∧ q.if5.getLsbD j = true) ↔ q.pend.getLsbD j = true := by
    intro j
    rw [pend_bit]
    simp
  rw [← and_assoc]
  simp only [e]
  exact encoder_table q.pend k

theorem highest_none (q : Irq) : q.highestPriorityPending = none ↔ q.isPending = false := by
  have h : ∀ v : BitVec 5,
      ((if v.getLsbD 0 then some IrqSource.vblank
        else if v.getLsbD 1 then some .stat
        else if v.getLsbD 2 then some .timer
        else if v.getLsbD 3 then some .serial
        else if v.getLsbD 4 then some .joypad
        else none) = none) ↔ (v != 0) = false := by decide
  exact h q.pend

/-- The highest priority source is a pending one. -/
theorem isPending_of_highest {q : Irq} {k : IrqSource} (h : q.highestPriorityPending = some k) :
    q.isPending = true := by
  cases hp : q.isPending
  · rw [(highest_none q).2 hp] at h
    cases h
  · rfl

@[simp] theorem request_ie5 (q : Irq) (k : IrqSource) : (q.request k).ie5 = q.ie5 := rfl
@[simp] theorem clear_ie5 (q : Irq) (k : IrqSource) : (q.clear k).ie5 = q.ie5 := rfl
/-- The mask of a source is its own bit. -/
theorem mask_bit (k : IrqSource) (j : Nat) : k.mask.getLsbD j = decide (j = k.bit) := by
  by_cases hj : j < 5
  · have := (by decide : ∀ k : Fin 5, ∀ j : Fin 5, ((1 : BitVec 5) <<< k.val).getLsbD j.val = decide (j.val = k.val))
    cases k
    exacts [this 0 ⟨j, hj⟩, this 1 ⟨j, hj⟩, this 2 ⟨j, hj⟩, this 3 ⟨j, hj⟩, this 4 ⟨j, hj⟩]
  · rw [BitVec.getLsbD_of_ge _ _ (by omega)]
    cases k <;> exact (decide_eq_false (by simp only [IrqSource.bit]; omega)).symm

/-- A request changes no other source's bit. -/
theorem request_bit_ne (q : Irq) {k : IrqSource} {j : Nat} (h : j ≠ k.bit) :
    (q.request k).if5.getLsbD j = q.if5.getLsbD j := by
  rw [Irq.request, BitVec.getLsbD_or, mask_bit, decide_eq_false h, Bool.or_false]

@[simp] theorem requestSet_ie5 (q : Irq) (set : BitVec 5) : (q.requestSet set).ie5 = q.ie5 := rfl
@[simp] theorem requestSet_zero (q : Irq) : q.requestSet 0 = q := by
  simp [Irq.requestSet]

/-! ### The service sequence -/

/-- What the service sequence does to the CPU. -/
theorem service_cpu (s : State) (k : IrqSource) : (s.service k).cpu =
    { s.cpu with sp := s.cpu.sp - 2, pc := k.vector, ime := false, imePending := false } := by
  simp only [State.service, push16_eq]
  rw [show ∀ (u : State) w, (u.putSp w).cpu = { u.cpu with sp := w } from fun _ _ => rfl]
  simp

/-- Outside the CPU the service sequence is the two writes of a push and one request bit cleared. -/
theorem service_outside (s : State) (k : IrqSource) {w : State}
    (hw : w = (s.busWrite (s.cpu.sp - 1) (hiByte s.cpu.pc)).busWrite (s.cpu.sp - 2) (loByte s.cpu.pc)) :
    SameOutsideCpu { w with irq := w.irq.clear k } (s.service k) := by
  simp only [State.service, push16_eq, ← hw]
  exact .of_fields rfl rfl rfl rfl rfl rfl rfl rfl rfl rfl

/-- Only IF and IE show the interrupt controller. -/
theorem readPlace_irq (s : State) (q : Irq) (h : q.ie5 = s.irq.ie5) {p : Place} (hp : p ≠ .io .ifl) :
    ({ s with irq := q } : State).readPlace p = s.readPlace p := by
  cases p
  case io r => cases r <;> first | rfl | exact absurd rfl hp
  case ie => simp only [State.readPlace, h]
  all_goals rfl

/-- Only one address leads to the register IF. -/
theorem place_ifl {s : State} {x : Word} (h : s.place x = .io .ifl) : x = 0xFF0F := by
  have c := place_cases s x
  rw [h] at c
  cases c
  case io lo hi e =>
    have t : ∀ n, n < 128 → ioRegAt n = some .ifl → n = 15 := by decide
    have := t (x.toNat - 0xFF00) (by omega) e
    bv_omega

end Sys2Proof.Machine
end

