-- ==== Sys2Proof/Laws/Timer.lean ====
section
/-! SUPPORT. The timer: what one tick does, what it leaves alone, and the invariant it keeps. -/

namespace Sys2Proof.Machine

/-- What holds and is kept by a tick holds after any number of ticks. -/
theorem iterate_keeps {f : State → State} {P : State → Prop} (hf : ∀ u, P u → P (f u)) (n : Nat) {s : State}
    (h : P s) : P (Nat.iterate f n s) := by
  induction n generalizing s with
  | zero => exact h
  | succ n ih => exact ih (hf s h)

theorem timerAdvance_zero (s : State) : s.timerAdvance 0 = s := rfl

theorem timerAdvance_succ (s : State) (n : Nat) : s.timerAdvance (n + 1) = (s.timerAdvance n).timerTick :=
  Function.iterate_succ_apply' State.timerTick n s

/-- A tick of the timer changes the timer and the interrupt controller, and no enable bit. -/
structure SameButTimer (s t : State) : Prop where
  eq : t = { s with timer := t.timer, irq := t.irq }
  ie5 : t.irq.ie5 = s.irq.ie5
  tma : t.timer.tma = s.timer.tma
  tac : t.timer.tac = s.timer.tac

theorem SameButTimer.trans {s t u : State} (h : SameButTimer s t) (k : SameButTimer t u) : SameButTimer s u := by
  refine ⟨?_, k.ie5.trans h.ie5, k.tma.trans h.tma, k.tac.trans h.tac⟩
  rw [k.eq, h.eq]

@[simp] theorem reloadTick_tma (t : Timer) : t.reloadTick.1.tma = t.tma := by
  unfold Timer.reloadTick
  dsimp only
  split
  · split <;> rfl
  · rfl

@[simp] theorem reloadTick_tac (t : Timer) : t.reloadTick.1.tac = t.tac := by
  unfold Timer.reloadTick
  dsimp only
  split
  · split <;> rfl
  · rfl

@[simp] theorem reloadTick_div16 (t : Timer) : t.reloadTick.1.div16 = t.div16 := by
  unfold Timer.reloadTick
  dsimp only
  split
  · split <;> rfl
  · rfl

@[simp] theorem reloadTick_timerAcc (t : Timer) : t.reloadTick.1.timerAcc = t.timerAcc := by
  unfold Timer.reloadTick
  dsimp only
  split
  · split <;> rfl
  · rfl

theorem reloadTick_idle {t : Timer} (h : t.reloadPending = false) : t.reloadTick = (t, false) := by
  simp [Timer.reloadTick, h]

@[simp] theorem countTick_tma (t : Timer) : t.countTick.tma = t.tma := by
  unfold Timer.countTick
  repeat' split
  all_goals rfl

@[simp] theorem countTick_tac (t : Timer) : t.countTick.tac = t.tac := by
  unfold Timer.countTick
  repeat' split
  all_goals rfl

@[simp] theorem countTick_div16 (t : Timer) : t.countTick.div16 = t.div16 := by
  unfold Timer.countTick
  repeat' split
  all_goals rfl

@[simp] theorem tick_div16 (t : Timer) : t.tick.1.div16 = t.div16 + 1 := by
  simp [Timer.tick]

@[simp] theorem tick_tma (t : Timer) : t.tick.1.tma = t.tma := by
  simp [Timer.tick]

@[simp] theorem tick_tac (t : Timer) : t.tick.1.tac = t.tac := by
  simp [Timer.tick]

theorem timerTick_same (s : State) : SameButTimer s s.timerTick := by
  refine ⟨rfl, ?_, tick_tma _, tick_tac _⟩
  unfold State.timerTick
  dsimp only
  split <;> rfl

theorem timerAdvance_same (s : State) (n : Nat) : SameButTimer s (s.timerAdvance n) := by
  induction n with
  | zero => exact ⟨rfl, rfl, rfl, rfl⟩
  | succ n ih =>
    rw [timerAdvance_succ]
    exact ih.trans (timerTick_same _)

/-- With no reload pending and short of the period a tick only counts. -/
theorem tick_short {t : Timer} (hr : t.reloadPending = false) (he : t.tac.getLsbD 2 = true)
    (hp : t.timerAcc.toNat + 1 ≠ timerPeriod t.tac) :
    t.tick = ({ t with div16 := t.div16 + 1, timerAcc := t.timerAcc + 1 }, false) := by
  have e : t.tac[2] = true := by simpa using he
  simp [Timer.tick, Timer.reloadTick, Timer.countTick, Timer.enabled, hr, e, hp]

/-- At the end of a period TIMA counts. -/
theorem tick_period {t : Timer} (hr : t.reloadPending = false) (he : t.tac.getLsbD 2 = true)
    (hp : t.timerAcc.toNat + 1 = timerPeriod t.tac) (ho : t.tima ≠ 0xFF) :
    t.tick = ({ t with div16 := t.div16 + 1, timerAcc := 0, tima := t.tima + 1 }, false) := by
  have e : t.tac[2] = true := by simpa using he
  simp [Timer.tick, Timer.reloadTick, Timer.countTick, Timer.enabled, hr, e, hp]
  exact ho

/-- At the end of a period TIMA overflows. -/
theorem tick_overflow {t : Timer} (hr : t.reloadPending = false) (he : t.tac.getLsbD 2 = true)
    (hp : t.timerAcc.toNat + 1 = timerPeriod t.tac) (ho : t.tima = 0xFF) :
    t.tick =
      ({ t with div16 := t.div16 + 1, timerAcc := 0, tima := 0, reloadPending := true, reloadDelay := 4 }, false) := by
  have e : t.tac[2] = true := by simpa using he
  simp [Timer.tick, Timer.reloadTick, Timer.countTick, Timer.enabled, hr, e, hp, ho]

/-- With no reload pending and the timer off only the divider counts. -/
theorem tick_off {t : Timer} (hr : t.reloadPending = false) (he : t.tac.getLsbD 2 = false) :
    t.tick = ({ t with div16 := t.div16 + 1 }, false) := by
  have e : t.tac[2] = false := by simpa using he
  simp [Timer.tick, Timer.reloadTick, Timer.countTick, Timer.enabled, hr, e]

/-- Inside the reload window, short of the period, the window counts, and the accumulator while the timer is on. -/
theorem tick_window {t : Timer} (hr : t.reloadPending = true) (hd : t.reloadDelay - 1 ≠ 0)
    (hp : t.timerAcc.toNat + 1 ≠ timerPeriod t.tac) :
    t.tick =
      ({ t with
         div16 := t.div16 + 1, reloadDelay := t.reloadDelay - 1
         timerAcc := if t.tac.getLsbD 2 then t.timerAcc + 1 else t.timerAcc }, false) := by
  have d : ¬t.reloadDelay - 1#3 = 0#3 := hd
  cases e : t.tac.getLsbD 2 <;>
    simp [Timer.tick, Timer.reloadTick, Timer.countTick, Timer.enabled, hr, hp, d,
      show t.tac[2] = _ by simpa using e]

/-- At the end of the reload window TIMA becomes the modulo and the interrupt is requested, the timer on or off. -/
theorem tick_reload {t : Timer} (hr : t.reloadPending = true) (hd : t.reloadDelay - 1 = 0)
    (hp : t.timerAcc.toNat + 1 ≠ timerPeriod t.tac) :
    t.tick =
      ({ t with
         div16 := t.div16 + 1, reloadDelay := 0, tima := t.tma, reloadPending := false
         timerAcc := if t.tac.getLsbD 2 then t.timerAcc + 1 else t.timerAcc }, true) := by
  have d : t.reloadDelay - 1#3 = 0#3 := hd
  cases e : t.tac.getLsbD 2 <;>
    simp [Timer.tick, Timer.reloadTick, Timer.countTick, Timer.enabled, hr, hp, d,
      show t.tac[2] = _ by simpa using e]

theorem timerTick_timer (s : State) : s.timerTick.timer = s.timer.tick.1 := rfl

theorem timerTick_irq (s : State) :
    s.timerTick.irq = if s.timer.tick.2 then s.irq.request .timer else s.irq := rfl

/-- The timer requests no source but its own: the enabled set and every other request bit stay. -/
theorem timerAdvance_irq_other (s : State) (n : Nat) : (s.timerAdvance n).irq.ie5 = s.irq.ie5 ∧
    ∀ j : Nat, j ≠ IrqSource.timer.bit → (s.timerAdvance n).irq.if5.getLsbD j = s.irq.if5.getLsbD j := by
  induction n with
  | zero => exact ⟨rfl, fun _ _ => rfl⟩
  | succ n ih =>
    rw [timerAdvance_succ, timerTick_irq]
    split
    · exact ⟨ih.1, fun j hj => by rw [request_bit_ne _ hj]; exact ih.2 j hj⟩
    · exact ih

theorem timerPeriod_ge (tac : BitVec 3) : 16 ≤ timerPeriod tac ∧ timerPeriod tac ≤ 1024 := by
  revert tac
  decide

theorem reloadTick_inv {t : Timer} (h : t.Inv) : t.reloadTick.1.timerAcc = t.timerAcc ∧
    t.reloadTick.1.tac = t.tac ∧
    (t.reloadTick.1.reloadPending = true →
      1 ≤ t.reloadTick.1.reloadDelay.toNat ∧ t.timerAcc.toNat + t.reloadTick.1.reloadDelay.toNat ≤ 3) := by
  refine ⟨reloadTick_timerAcc t, reloadTick_tac t, ?_⟩
  unfold Timer.reloadTick
  dsimp only
  cases hp : t.reloadPending
  · simp [hp]
  · have hw := h.window hp
    simp only [if_true]
    split
    · simp
    · rename_i hd
      intro _
      have h1 : (t.reloadDelay - 1).toNat = t.reloadDelay.toNat - 1 := by bv_omega
      have h2 : (t.reloadDelay - 1).toNat ≠ 0 := fun e => hd (BitVec.eq_of_toNat_eq e)
      dsimp only
      omega

theorem countTick_inv {t : Timer} (ha : t.timerAcc.toNat < timerPeriod t.tac)
    (hw : t.reloadPending = true → 1 ≤ t.reloadDelay.toNat ∧ t.timerAcc.toNat + t.reloadDelay.toNat ≤ 3) :
    t.countTick.Inv := by
  have hper := timerPeriod_ge t.tac
  unfold Timer.countTick
  split
  · split
    · rename_i hacc
      have hp : t.reloadPending = false := by
        cases h : t.reloadPending
        · rfl
        · have := hw h; omega
      split
      · exact ⟨by simp; omega, fun _ => by simp⟩
      · exact ⟨by simp; omega, fun h => by simp [hp] at h⟩
    · rename_i hacc
      have h1 : (t.timerAcc + 1).toNat = t.timerAcc.toNat + 1 := by bv_omega
      refine ⟨?_, fun h => ?_⟩
      · rw [h1]; dsimp only; omega
      · rw [h1]; have := hw h; dsimp only; omega
  · exact ⟨ha, fun h => by have := hw h; omega⟩

/-- A tick keeps the timer's invariant. -/
theorem tick_inv {t : Timer} (h : t.Inv) : t.tick.1.Inv := by
  have hd : ({ t with div16 := t.div16 + 1 } : Timer).Inv := ⟨h.accBelowPeriod, h.window⟩
  have hr := reloadTick_inv hd
  refine countTick_inv ?_ ?_
  · rw [hr.1, hr.2.1]
    exact h.accBelowPeriod
  · intro hp
    rw [hr.1]
    exact hr.2.2 hp

end Sys2Proof.Machine
end

