-- ==== Sys2Proof/Laws/Ppu.lean ====
section
/-! SUPPORT. The PPU: everything one tick can do, what it leaves alone, and the invariant it keeps. -/

namespace Sys2Proof.Machine

/-- What one tick does with the LCD on. -/
inductive TickCase (p : Ppu) : Ppu × BitVec 5 → Prop where
  | render (hl : p.ly < 144) (hd : p.dot = 79) :
    TickCase p (({ p with dot := 80, mode := .transfer } : Ppu).renderLine p.ly, 0)
  | hblank (hl : p.ly < 144) (hd : p.dot = 251) :
    TickCase p ({ p with dot := 252, mode := .hblank }, p.statRequest 0)
  | line (hl : p.ly < 143) (hd : p.dot = 455) :
    TickCase p ({ p with dot := 0, ly := p.ly + 1, mode := .oamScan }, p.statRequest 2 ||| p.lycRequest (p.ly + 1))
  | vblank (hl : p.ly = 143) (hd : p.dot = 455) :
    TickCase p ({ p with dot := 0, ly := 144, mode := .vblank, front := p.back },
      IrqSource.vblank.mask ||| p.statRequest 1 ||| p.lycRequest 144)
  | dot (hd : p.dot < 455) (hv : p.ly < 144 → p.dot ≠ 79 ∧ p.dot ≠ 251) :
    TickCase p ({ p with dot := p.dot + 1 }, 0)
  | vline (hl : 144 ≤ p.ly) (hl' : p.ly < 153) (hd : p.dot = 455) :
    TickCase p ({ p with dot := 0, ly := p.ly + 1 }, p.lycRequest (p.ly + 1))
  | wrap (hl : p.ly = 153) (hd : p.dot = 455) :
    TickCase p ({ p with dot := 0, ly := 0, wly := 0, frameComplete := true, mode := .oamScan },
      p.statRequest 2 ||| p.lycRequest 0)

theorem tick_cases {p : Ppu} (h : p.Inv) (hon : p.lcdOn = true) : TickCase p p.tick := by
  have hd := h.dotRange
  have hl := h.lyRange
  simp only [Config.dotsPerLine, Config.scanlines] at hd hl
  unfold Ppu.tick
  rw [if_neg (by simp [hon])]
  dsimp only [Config.screenHeight, Config.dotsPerLine]
  split
  · rename_i hv
    split
    · rename_i e
      rw [e]
      exact .render hv (by omega)
    · split
      · rename_i e
        rw [e]
        exact .hblank hv (by omega)
      · split
        · dsimp only [Ppu.endVisibleLine, Config.screenHeight]
          split
          · rename_i e
            rw [e]
            exact .vblank (by omega) (by omega)
          · exact .line (by omega) (by omega)
        · exact .dot (by omega) (fun _ => by omega)
  · split
    · dsimp only [Ppu.endVblankLine, Config.scanlines]
      split
      · exact .wrap (by omega) (by omega)
      · exact .vline (by omega) (by omega) (by omega)
    · exact .dot (by omega) (fun _ => by omega)

theorem tick_off_lcd {p : Ppu} (hoff : p.lcdOn = false) : p.tick = (p.offTick, 0) := by
  unfold Ppu.tick
  rw [if_pos hoff]

theorem offTick_eq {p : Ppu} (h : p.offCounter < 70224) : p.offTick =
    { p with
      offCounter := (p.offCounter + 1) % 70224
      frameComplete := p.frameComplete || decide (p.offCounter + 1 = 70224) } := by
  unfold Ppu.offTick
  dsimp only [Config.frameTicks]
  split
  · rename_i e
    simp [e]
  · rename_i e
    rw [Nat.mod_eq_of_lt (by omega)]
    simp [e]

theorem shaped_set {x : Frame} (h : x.shaped) {row : List Shade} (hr : row.length = 160) (y : Nat) :
    Frame.shaped (x.set y row) := by
  refine ⟨by simpa using h.1, fun r hm => ?_⟩
  rcases List.mem_or_eq_of_mem_set hm with hm | rfl
  · exact h.2 r hm
  · exact hr

/-- A scanline shows the window iff its last column does. -/
theorem windowAt_any (p : Ppu) (y : Nat) : (List.range Config.screenWidth).any (p.windowAt y) = p.windowOnLine y := by
  cases h : p.windowOnLine y
  · simp [Ppu.windowAt, h]
  · rw [List.any_eq_true]
    refine ⟨159, by simp [Config.screenWidth], ?_⟩
    simp only [Ppu.windowOnLine, Bool.and_eq_true, decide_eq_true_eq] at h
    simp only [Ppu.windowAt, Ppu.windowOnLine, Bool.and_eq_true, decide_eq_true_eq]
    exact ⟨h, by omega⟩

theorem blank_shaped : Frame.blank.shaped :=
  ⟨List.length_replicate, fun row hr => by rw [List.eq_of_mem_replicate hr]; exact List.length_replicate⟩

/-- What no tick of the PPU changes in the PPU: every register and both arrays. -/
structure SamePpuRegs (p q : Ppu) : Prop where
  lcdc : q.lcdc = p.lcdc
  statEn : q.statEn = p.statEn
  scy : q.scy = p.scy
  scx : q.scx = p.scx
  lyc : q.lyc = p.lyc
  bgp : q.bgp = p.bgp
  obp0 : q.obp0 = p.obp0
  obp1 : q.obp1 = p.obp1
  wy : q.wy = p.wy
  wx : q.wx = p.wx
  vram : q.vram = p.vram
  oam : q.oam = p.oam

theorem SamePpuRegs.refl (p : Ppu) : SamePpuRegs p p := ⟨rfl, rfl, rfl, rfl, rfl, rfl, rfl, rfl, rfl, rfl, rfl, rfl⟩

theorem SamePpuRegs.trans {p q r : Ppu} (h : SamePpuRegs p q) (k : SamePpuRegs q r) : SamePpuRegs p r :=
  ⟨k.lcdc.trans h.lcdc, k.statEn.trans h.statEn, k.scy.trans h.scy, k.scx.trans h.scx, k.lyc.trans h.lyc,
    k.bgp.trans h.bgp, k.obp0.trans h.obp0, k.obp1.trans h.obp1, k.wy.trans h.wy, k.wx.trans h.wx,
    k.vram.trans h.vram, k.oam.trans h.oam⟩

theorem tick_regs (p : Ppu) : SamePpuRegs p p.tick.1 := by
  unfold Ppu.tick
  dsimp only
  repeat' split
  all_goals
    first
      | exact ⟨rfl, rfl, rfl, rfl, rfl, rfl, rfl, rfl, rfl, rfl, rfl, rfl⟩
      | (dsimp only [Ppu.offTick, Ppu.endVisibleLine, Ppu.endVblankLine]
         split <;> exact ⟨rfl, rfl, rfl, rfl, rfl, rfl, rfl, rfl, rfl, rfl, rfl, rfl⟩)

theorem modeAt_next {ly dot : Nat} (hv : ly < 144 → dot ≠ 79 ∧ dot ≠ 251) : modeAt ly (dot + 1) = modeAt ly dot := by
  simp only [modeAt, Config.screenHeight]
  split_ifs <;> first | rfl | omega

theorem windowRowsBound_next (ly dot : Nat) :
    windowRowsBound ly dot ≤ windowRowsBound ly (dot + 1) := by
  simp only [windowRowsBound, Config.screenHeight]
  split_ifs <;> omega

/-- The window line counter is 0 to 143 wherever a scanline is still to be rendered: every value `RenderLine` reads
is in the range of rule R392. -/
theorem wly_before_render {p : Ppu} (h : p.Inv) (hv : p.ly < 144) (hd : p.dot < 80) : p.wly ≤ 143 := by
  have hw := h.windowRows
  simp (disch := omega) only [windowRowsBound, Config.screenHeight, if_neg, if_pos] at hw
  omega

/-- The value 144 stands only after the last visible scanline is rendered, until the wrap (log entry 5). -/
theorem wly_past_range {p : Ppu} (h : p.Inv) (hw : 143 < p.wly) : p.wly = 144 ∧ (p.ly = 143 → 80 ≤ p.dot) ∧
    143 ≤ p.ly := by
  have hb := h.windowRows
  simp only [windowRowsBound, Config.screenHeight] at hb
  split at hb
  · omega
  · split at hb <;> omega

/-- A tick keeps the invariant of the PPU. -/
theorem ppuTick_inv {p : Ppu} (h : p.Inv) : p.tick.1.Inv := by
  cases hon : p.lcdOn
  · rw [tick_off_lcd hon, offTick_eq h.offRange]
    exact ⟨h.lyRange, h.dotRange, h.onMode, h.off, h.windowRows, Nat.mod_lt _ (by decide), h.vramOk, h.oamOk,
      h.backShaped, h.frontShaped⟩
  · have hmode := h.onMode hon
    have hw := h.windowRows
    have hrange := h.lyRange
    have hc := tick_cases h hon
    generalize p.tick = r at hc
    have hoff : ∀ q : Ppu, q.lcdc = p.lcdc → q.lcdOn = false → q.ly = 0 ∧ q.dot = 0 ∧ q.mode = .hblank := by
      intro q hq hf
      rw [Ppu.lcdOn, hq] at hf
      rw [Ppu.lcdOn, hf] at hon
      cases hon
    simp only [windowRowsBound, Config.screenHeight, modeAt, Config.scanlines] at hw hmode hrange
    cases hc
    case render hl hd =>
      rw [if_neg (by omega), if_pos (by omega)] at hw
      refine ⟨by simpa [Ppu.renderLine] using h.lyRange, by simp [Ppu.renderLine, Config.dotsPerLine], ?_,
        hoff _ rfl, ?_, h.offRange, h.vramOk, h.oamOk, ?_, h.frontShaped⟩
      · intro _
        simp [Ppu.renderLine, modeAt, Config.screenHeight, hl]
      · simp only [Ppu.renderLine, windowRowsBound, Config.screenHeight]
        split_ifs <;> omega
      · exact shaped_set h.backShaped (by simp [Config.screenWidth]) _
    case hblank hl hd =>
      refine ⟨h.lyRange, by simp [Config.dotsPerLine], ?_, hoff _ rfl, ?_, h.offRange, h.vramOk, h.oamOk,
        h.backShaped, h.frontShaped⟩
      · intro _
        simp [modeAt, Config.screenHeight, hl]
      · simp only [windowRowsBound, Config.screenHeight]
        rw [if_neg (by omega), if_neg (by omega)] at hw ⊢
        exact hw
    case line hl hd =>
      refine ⟨by simp [Config.scanlines]; omega, by simp [Config.dotsPerLine], ?_, hoff _ rfl, ?_, h.offRange,
        h.vramOk, h.oamOk, h.backShaped, h.frontShaped⟩
      · intro _
        simp only [modeAt, Config.screenHeight]
        rw [if_neg (by omega), if_pos (by omega)]
      · simp only [windowRowsBound, Config.screenHeight]
        rw [if_neg (by omega), if_neg (by omega)] at hw
        rw [if_neg (by omega), if_pos (by omega)]
        exact hw
    case vblank hl hd =>
      refine ⟨by simp [Config.scanlines], by simp [Config.dotsPerLine], fun _ => by simp [modeAt, Config.screenHeight],
        hoff _ rfl, ?_, h.offRange, h.vramOk, h.oamOk, h.backShaped, h.backShaped⟩
      simp only [windowRowsBound, Config.screenHeight]
      rw [if_neg (by omega), if_neg (by omega)] at hw
      rw [if_pos (by omega)]
      omega
    case dot hd hv =>
      refine ⟨h.lyRange, by simp [Config.dotsPerLine]; omega, ?_, hoff _ rfl, ?_, h.offRange, h.vramOk, h.oamOk,
        h.backShaped, h.frontShaped⟩
      · intro _
        exact (h.onMode hon).trans (modeAt_next hv).symm
      · exact h.windowRows.trans (windowRowsBound_next _ _)
    case vline hl hl' hd =>
      refine ⟨by simp [Config.scanlines]; omega, by simp [Config.dotsPerLine], ?_, hoff _ rfl, ?_, h.offRange,
        h.vramOk, h.oamOk, h.backShaped, h.frontShaped⟩
      · intro _
        simp only [modeAt, Config.screenHeight]
        rw [if_pos (by omega)] at hmode ⊢
        exact hmode
      · simp only [windowRowsBound, Config.screenHeight]
        rw [if_pos (by omega)] at hw ⊢
        exact hw
    case wrap hl hd =>
      exact ⟨by simp [Config.scanlines], by simp [Config.dotsPerLine], fun _ => by simp [modeAt, Config.screenHeight],
        hoff _ rfl, by simp [windowRowsBound], h.offRange, h.vramOk, h.oamOk, h.backShaped, h.frontShaped⟩

/-! ### Requests and pixels -/

theorem statRequest_bit (p : Ppu) (k j : Nat) :
    (p.statRequest k).getLsbD j = (decide (j = 1) && p.statEn.getLsbD k) := by
  unfold Ppu.statRequest
  have : ∀ j, (IrqSource.stat.mask).getLsbD j = decide (j = 1) := by
    intro j
    by_cases hj : j < 5
    · revert j; decide
    · rw [BitVec.getLsbD_of_ge _ _ (by omega)]; simp; omega
  split
  · rename_i h; simp only [this, h, Bool.and_true]
  · rename_i h; simp at h; simp [h]

theorem lycRequest_bit (p : Ppu) (ly j : Nat) : (p.lycRequest ly).getLsbD j =
    (decide (j = 1) && decide (ly = p.lyc.toNat) && p.statEn.getLsbD 3) := by
  unfold Ppu.lycRequest
  split
  · rename_i h; simp only [statRequest_bit, h, decide_true, Bool.and_true]
  · rename_i h; simp [h]

theorem vblankMask_bit (j : Nat) : (IrqSource.vblank.mask).getLsbD j = decide (j = 0) :=
  mask_bit .vblank j

theorem toNat_paletteShade : ∀ (palette : Byte) (k : BitVec 2),
    (paletteShade palette k).toNat = palette.toNat / 4 ^ k.toNat % 4 := by
  decide +kernel

theorem toNat_tilePixel (p : Ppu) (base row col : Nat) : (p.tilePixel base row col).toNat =
    2 * ((p.vram.read (base + 2 * row + 1)).getLsbD (7 - col)).toNat +
      ((p.vram.read (base + 2 * row)).getLsbD (7 - col)).toNat := by
  have h : ∀ a b : Bool, (BitVec.ofBool a ++ BitVec.ofBool b).toNat = 2 * a.toNat + b.toNat := by decide
  exact h _ _

/-- The order of sprites is total. -/
theorem spriteBefore_total (p : Ppu) (i j : Nat) : p.spriteBefore i j = true ∨ p.spriteBefore j i = true := by
  unfold Ppu.spriteBefore
  rcases Nat.lt_trichotomy (p.oamByte i 1).toNat (p.oamByte j 1).toNat with h | h | h
  · left; simp [h]
  · rcases Nat.le_total i j with k | k
    · left; simp [h, k]
    · right; simp [h, k]
  · right; simp [h]

theorem spriteBefore_trans (p : Ppu) {i j k : Nat} (h : p.spriteBefore i j = true) (h' : p.spriteBefore j k = true) :
    p.spriteBefore i k = true := by
  unfold Ppu.spriteBefore at *
  simp at *
  omega

/-- The sprites of a scanline are the first ten that are on it, in some order. -/
theorem spritesOnLine_perm (p : Ppu) (y : Nat) :
    (p.spritesOnLine y).Perm (((List.range 40).filter (p.spriteOnLine y)).take 10) :=
  List.perm_insertionSort _ _

/-! ### In the machine -/

theorem ppuAdvance_zero (s : State) : s.ppuAdvance 0 = s := rfl

theorem ppuAdvance_succ (s : State) (n : Nat) : s.ppuAdvance (n + 1) = (s.ppuAdvance n).ppuTick :=
  Function.iterate_succ_apply' State.ppuTick n s

theorem ppuTick_ppu (s : State) : s.ppuTick.ppu = s.ppu.tick.1 := rfl

theorem ppuTick_irq (s : State) : s.ppuTick.irq = s.irq.requestSet s.ppu.tick.2 := rfl

/-- The requests of a tick set their bits of IF and clear none. -/
theorem ppuTick_if5 (s : State) (j : Nat) :
    s.ppuTick.irq.if5.getLsbD j = (s.irq.if5.getLsbD j || s.ppu.tick.2.getLsbD j) := by
  rw [ppuTick_irq, Irq.requestSet, BitVec.getLsbD_or]

/-- A tick of the PPU changes the PPU and the interrupt controller, and no enable bit. -/
structure SameButPpu (s t : State) : Prop where
  eq : t = { s with ppu := t.ppu, irq := t.irq }
  ie5 : t.irq.ie5 = s.irq.ie5
  regs : SamePpuRegs s.ppu t.ppu

theorem SameButPpu.trans {s t u : State} (h : SameButPpu s t) (k : SameButPpu t u) : SameButPpu s u := by
  refine ⟨?_, k.ie5.trans h.ie5, h.regs.trans k.regs⟩
  rw [k.eq, h.eq]

theorem ppuTick_same (s : State) : SameButPpu s s.ppuTick := ⟨rfl, rfl, tick_regs s.ppu⟩

theorem ppuAdvance_same (s : State) (n : Nat) : SameButPpu s (s.ppuAdvance n) := by
  induction n with
  | zero => exact ⟨rfl, rfl, .refl _⟩
  | succ n ih =>
    rw [ppuAdvance_succ]
    exact ih.trans (ppuTick_same _)

theorem ppuAdvance_inv {s : State} (h : s.ppu.Inv) (n : Nat) : (s.ppuAdvance n).ppu.Inv := by
  induction n with
  | zero => exact h
  | succ n ih =>
    rw [ppuAdvance_succ, ppuTick_ppu]
    exact ppuTick_inv ih

theorem timerAdvance_inv {s : State} (h : s.timer.Inv) (n : Nat) : (s.timerAdvance n).timer.Inv := by
  induction n with
  | zero => exact h
  | succ n ih =>
    rw [timerAdvance_succ, timerTick_timer]
    exact tick_inv ih

/-- What the devices can change: the timer, the PPU and the request bits. -/
structure SameButDevices (s t : State) : Prop where
  eq : t = { s with timer := t.timer, ppu := t.ppu, irq := t.irq }
  ie5 : t.irq.ie5 = s.irq.ie5
  tma : t.timer.tma = s.timer.tma
  tac : t.timer.tac = s.timer.tac
  regs : SamePpuRegs s.ppu t.ppu

theorem advanceDevices_same (s : State) : SameButDevices s s.advanceDevices := by
  have h := timerAdvance_same s s.cycles
  have k := ppuAdvance_same (s.timerAdvance s.cycles) s.cycles
  have hp : (s.timerAdvance s.cycles).ppu = s.ppu := by rw [h.eq]
  have e : s.advanceDevices = { s.timerAdvance s.cycles with ppu := s.advanceDevices.ppu, irq := s.advanceDevices.irq } :=
    k.eq
  have ht : s.advanceDevices.timer = (s.timerAdvance s.cycles).timer := by rw [e]
  refine ⟨?_, k.ie5.trans h.ie5, by rw [ht, h.tma], by rw [ht, h.tac], by rw [← hp]; exact k.regs⟩
  rw [e, h.eq]

end Sys2Proof.Machine
end

