-- ==== Sys2Proof/Laws/Step.lean ====
section
/-! SUPPORT. The step: the poll, the EI delay, the four things a CPU step can be, and what a machine step adds. -/

namespace Sys2Proof.Machine

/-! ### The parts of a CPU step -/

theorem wake_idle {s : State} (h : s.irq.isPending = false) : s.wake = s := by
  simp [State.wake, h]

theorem wake_pending {s : State} (h : s.irq.isPending = true) :
    s.wake = { s with cpu := { s.cpu with halted := false } } := by
  simp [State.wake, h]

theorem commitIme_none {s : State} (h : s.cpu.imePending = false) : s.commitIme = s := by
  simp [State.commitIme, h]

theorem commitIme_pending {s : State} (h : s.cpu.imePending = true) :
    s.commitIme = { s with cpu := { s.cpu with ime := true, imePending := false } } := by
  simp [State.commitIme, h]

/-- The wake changes the halted state only. -/
theorem wake_eq (s : State) :
    s.wake = { s with cpu := { s.cpu with halted := s.cpu.halted && !s.irq.isPending } } := by
  cases h : s.irq.isPending
  · simp [wake_idle h]
  · simp [wake_pending h]

/-- The EI delay changes the two latches only. -/
theorem commitIme_eq (s : State) :
    s.commitIme =
      { s with cpu := { s.cpu with ime := s.cpu.ime || s.cpu.imePending, imePending := false } } := by
  cases h : s.cpu.imePending
  · rw [commitIme_none h, Bool.or_false, ← h]
  · simp [commitIme_pending h]

theorem wake_outside (s : State) : SameOutsideCpu s s.wake := by
  rw [wake_eq]
  exact .cpu s _ _

theorem commitIme_outside (s : State) : SameOutsideCpu s s.commitIme := by
  rw [commitIme_eq]
  exact .cpu s _ _

/-- The fetch sees `pc` and what a bus read sees. -/
theorem fetched_of_same {s t : State} (h : SameOutsideCpu s t) (hp : t.cpu.pc = s.cpu.pc) :
    t.fetched = s.fetched := by
  simp only [State.fetched, hp, h.reads]

@[simp] theorem wake_fetched (s : State) : s.wake.fetched = s.fetched :=
  fetched_of_same (wake_outside s) (by rw [wake_eq])

/-! ### The four things a CPU step can be -/

theorem cpuStep_dead {s : State} {f : Fault} (h : s.cpu.dead = some f) : s.cpuStep = .fault f := by
  simp [State.cpuStep, h]

theorem cpuStep_alive {s : State} (h : s.cpu.dead = none) : s.cpuStep =
    match s.wake.serviceable with
    | some k => .next (s.wake.service k)
    | none => if s.wake.cpu.halted then s.wake.done 4 else exec s.wake.fetched s.wake.commitIme := by
  rw [State.cpuStep, h] <;> rfl

theorem wake_serviceable (s : State) :
    s.wake.serviceable = if s.cpu.ime then s.irq.highestPriorityPending else none := by
  rw [wake_eq]
  rfl

theorem cpuStep_service {s : State} {k : IrqSource} (hd : s.cpu.dead = none) (hi : s.cpu.ime = true)
    (hk : s.irq.highestPriorityPending = some k) : s.cpuStep = .next (s.wake.service k) := by
  rw [cpuStep_alive hd, wake_serviceable, if_pos hi, hk]

/-- Nothing to service: the latch is clear, or nothing is pending. -/
theorem wake_serviceable_none {s : State} (h : s.cpu.ime = false ∨ s.irq.isPending = false) :
    s.wake.serviceable = none := by
  rw [wake_serviceable]
  rcases h with h | h
  · simp [h]
  · rw [(highest_none s.irq).2 h, ite_self]

theorem cpuStep_idle {s : State} (hd : s.cpu.dead = none) (hh : s.cpu.halted = true)
    (hp : s.irq.isPending = false) : s.cpuStep = .next { s with cycles := 4 } := by
  rw [cpuStep_alive hd, wake_serviceable_none (.inr hp), wake_idle hp]
  simp only [hh, if_true]
  rfl

theorem cpuStep_run {s : State} (hd : s.cpu.dead = none) (hi : s.cpu.ime = false ∨ s.irq.isPending = false)
    (hh : s.cpu.halted = false ∨ s.irq.isPending = true) : s.cpuStep = exec s.fetched s.wake.commitIme := by
  have hw : s.wake.cpu.halted = false := by
    rw [wake_eq]
    rcases hh with h | h <;> simp [h]
  rw [cpuStep_alive hd, wake_serviceable_none hi]
  simp only [hw, wake_fetched, Bool.false_eq_true, if_false]

/-- Everything a CPU step can be. -/
theorem cpuStep_cases (s : State) :
    (∃ f, s.cpu.dead = some f ∧ s.cpuStep = .fault f) ∨
    (s.cpu.dead = none ∧ ∃ k, s.cpuStep = .next (s.wake.service k)) ∨
    (s.cpu.dead = none ∧ s.cpu.halted = true ∧ s.irq.isPending = false ∧
      s.cpuStep = .next { s with cycles := 4 }) ∨
    (s.cpu.dead = none ∧ (s.cpu.halted = false ∨ s.irq.isPending = true) ∧
      s.cpuStep = exec s.fetched s.wake.commitIme) := by
  cases hd : s.cpu.dead with
  | some f => exact .inl ⟨f, rfl, cpuStep_dead hd⟩
  | none =>
    right
    cases hi : s.cpu.ime && s.irq.isPending
    · right
      rw [Bool.and_eq_false_iff] at hi
      by_cases hh : s.cpu.halted = true ∧ s.irq.isPending = false
      · exact .inl ⟨rfl, hh.1, hh.2, cpuStep_idle hd hh.1 hh.2⟩
      · have hh' : s.cpu.halted = false ∨ s.irq.isPending = true := by
          cases h1 : s.cpu.halted <;> cases h2 : s.irq.isPending <;> simp_all
        exact .inr ⟨rfl, hh', cpuStep_run hd hi hh'⟩
    · rw [Bool.and_eq_true] at hi
      cases hk : s.irq.highestPriorityPending with
      | none => rw [(highest_none s.irq).1 hk] at hi; cases hi.2
      | some k => exact .inl ⟨rfl, k, cpuStep_service hd hi.1 hk⟩

/-! ### The machine step -/

theorem step_eq (s : State) : step s =
    match s.cpuStep with
    | .next t => .next t.advanceDevices
    | .fault f => .fault f
    | .refused r => .refused r := rfl

theorem step_of_next {s t : State} (h : s.cpuStep = .next t) : step s = .next t.advanceDevices := by
  rw [step_eq, h]

theorem step_of_fault {s : State} {f : Fault} (h : s.cpuStep = .fault f) : step s = .fault f := by
  rw [step_eq, h]

theorem step_next {s t : State} (h : step s = .next t) : ∃ u, s.cpuStep = .next u ∧ t = u.advanceDevices := by
  rw [step_eq] at h
  cases hc : s.cpuStep <;> rw [hc] at h <;> cases h
  exact ⟨_, rfl, rfl⟩

theorem step_fault {s : State} {f : Fault} (h : step s = .fault f) : s.cpuStep = .fault f := by
  rw [step_eq] at h
  cases hc : s.cpuStep <;> rw [hc] at h <;> cases h
  rfl

theorem cpuStep_not_refused (s : State) (r : Refusal) : s.cpuStep ≠ .refused r := by
  intro h
  rcases cpuStep_cases s with ⟨f, -, e⟩ | ⟨-, k, e⟩ | ⟨-, -, -, e⟩ | ⟨-, -, e⟩ <;> rw [e] at h
  · cases h
  · cases h
  · cases h
  · exact exec_not_refused _ _ r h

theorem step_not_refused (s : State) (r : Refusal) : step s ≠ .refused r := by
  intro h
  rw [step_eq] at h
  cases hc : s.cpuStep <;> rw [hc] at h <;> cases h
  exact cpuStep_not_refused s _ hc

/-- The ticks a CPU step returns. -/
theorem cpuStep_ticks {s t : State} (h : s.cpuStep = .next t) : t.cycles ∈ [4, 8, 12, 16, 20, 24] := by
  rcases cpuStep_cases s with ⟨f, -, e⟩ | ⟨-, k, e⟩ | ⟨-, -, -, e⟩ | ⟨-, -, e⟩ <;> rw [e] at h
  · cases h
  · cases h
    simp [State.service]
  · cases h
    simp
  · exact (exec_effect h).ticks

/-- What a CPU step that raises an outcome has fetched. -/
theorem cpuStep_fault {s : State} {f : Fault} (h : s.cpuStep = .fault f) :
    s.cpu.dead = some f ∨
    (s.cpu.dead = none ∧ (∃ n, s.fetched = .stop n) ∧ f = .stop s.cpu.pc) ∨
    (s.cpu.dead = none ∧ ∃ k, s.fetched = Instr.illegal k ∧ s.policy = .fatal ∧
      f = .decodeError k.byte s.cpu.pc) := by
  rcases cpuStep_cases s with ⟨g, hd, e⟩ | ⟨-, k, e⟩ | ⟨-, -, -, e⟩ | ⟨hd, -, e⟩ <;> rw [e] at h
  · cases h
    exact .inl hd
  · cases h
  · cases h
  · have hpc : s.wake.commitIme.cpu.pc = s.cpu.pc := by rw [commitIme_eq, wake_eq]
    have hpo : s.wake.commitIme.policy = s.policy := by rw [commitIme_eq, wake_eq]
    rcases exec_cases s.fetched s.wake.commitIme with ⟨t, ht, -⟩ | ⟨n, hn, hf⟩ | ⟨k, hk, hp, hf⟩
    · rw [ht] at h; cases h
    · rw [hf] at h
      cases h
      exact .inr (.inl ⟨hd, ⟨n, hn⟩, by rw [hpc]⟩)
    · rw [hf] at h
      cases h
      exact .inr (.inr ⟨hd, k, hk, by rw [← hpo]; exact hp, by rw [hpc]⟩)

/-! ### The state an outcome leaves -/

theorem afterOutcome_dead {s : State} {g : Fault} (h : s.cpu.dead = some g) (f : Fault) : s.afterOutcome f = s := by
  simp [State.afterOutcome, h]

theorem afterOutcome_alive {s : State} (h : s.cpu.dead = none) (f : Fault) : s.afterOutcome f =
    { s with cpu := { s.cpu with halted := s.cpu.halted && !s.irq.isPending, dead := some f } } := by
  rw [State.afterOutcome, h, wake_eq]

end Sys2Proof.Machine
end

