-- ==== Sys2Proof/Laws/Invariant.lean ====
section
/-! SUPPORT. The invariant: the bus, one instruction, the poll, the service sequence and the devices each keep
it. -/

namespace Sys2Proof.Machine

/-! ### The cartridge -/

theorem romIndex_lt {c : Cart} (h : c.Inv) (a : Word) : c.romIndex a < c.romLen := by
  have hb := h.banksPresent
  have hi := h.banksInImage
  simp only [Config.romBankSize] at hi
  have hlt : c.romBank a < c.romBanks := by
    unfold Cart.romBank
    repeat' split
    all_goals exact Nat.mod_lt _ hb
  have hm : a.toNat % 0x4000 < 0x4000 := Nat.mod_lt _ (by decide)
  have hd := Nat.div_mul_le_self c.romLen 0x4000
  have hs : (c.romBank a + 1) * 0x4000 ≤ c.romBanks * 0x4000 := Nat.mul_le_mul_right _ hlt
  simp only [Cart.romIndex, Config.romBankSize]
  rw [Nat.add_mul, Nat.one_mul] at hs
  omega

theorem ramIndex_lt {c : Cart} (h : c.ramOn = true) (a : Word) : c.ramIndex a < c.ramLen := by
  rw [Cart.ramOn, Bool.and_eq_true, bne_iff_ne] at h
  exact Nat.mod_lt _ (by omega)

theorem controlWrite_inv {c : Cart} (h : c.Inv) (a : Word) (v : Byte) : (c.controlWrite a v).Inv := by
  unfold Cart.controlWrite
  split
  · exact h
  · dsimp only
    split_ifs
    · exact ⟨h.romOk, h.banksPresent, h.banksInImage, h.extRamOk, h.ramSize, h.bank1NotZero, h.noneHasNoRam⟩
    · exact ⟨h.romOk, h.banksPresent, h.banksInImage, h.extRamOk, h.ramSize, (by decide : (1 : BitVec 5) ≠ 0),
        h.noneHasNoRam⟩
    · rename_i hz
      exact ⟨h.romOk, h.banksPresent, h.banksInImage, h.extRamOk, h.ramSize, hz, h.noneHasNoRam⟩
    · exact ⟨h.romOk, h.banksPresent, h.banksInImage, h.extRamOk, h.ramSize, h.bank1NotZero, h.noneHasNoRam⟩
    · exact ⟨h.romOk, h.banksPresent, h.banksInImage, h.extRamOk, h.ramSize, h.bank1NotZero, h.noneHasNoRam⟩

theorem extRamWrite_inv {c : Cart} (h : c.Inv) {i : Nat} (hi : i < c.ramLen) (v : Byte) :
    ({ c with extRam := c.extRam.write i v } : Cart).Inv :=
  ⟨h.romOk, h.banksPresent, h.banksInImage, Memory.ok_write h.extRamOk hi v, h.ramSize, h.bank1NotZero,
    h.noneHasNoRam⟩

/-! ### The PPU and the timer under register writes -/

theorem writeVram_inv {p : Ppu} (h : p.Inv) {i : Nat} (hi : i < Config.vramSize) (v : Byte) :
    (p.writeVram i v).Inv := by
  unfold Ppu.writeVram
  split
  · exact h
  · exact ⟨h.lyRange, h.dotRange, h.onMode, h.off, h.windowRows, h.offRange, Memory.ok_write h.vramOk hi v, h.oamOk,
      h.backShaped, h.frontShaped⟩

theorem writeOam_inv {p : Ppu} (h : p.Inv) {i : Nat} (hi : i < Config.oamSize) (v : Byte) :
    (p.writeOam i v).Inv := by
  unfold Ppu.writeOam
  split
  · exact h
  · exact ⟨h.lyRange, h.dotRange, h.onMode, h.off, h.windowRows, h.offRange, h.vramOk, Memory.ok_write h.oamOk hi v,
      h.backShaped, h.frontShaped⟩

theorem writeLcdc_inv {p : Ppu} (h : p.Inv) (v : Byte) : (p.writeLcdc v).Inv := by
  unfold Ppu.writeLcdc
  split
  · rename_i he
    refine ⟨h.lyRange, h.dotRange, fun hon => h.onMode ?_, fun hoff => h.off ?_, h.windowRows, h.offRange, h.vramOk,
      h.oamOk, h.backShaped, h.frontShaped⟩
    · exact he.trans hon
    · exact he.trans hoff
  · refine ⟨by simp [Config.scanlines], by simp [Config.dotsPerLine], fun hon => ?_, fun hoff => ?_, Nat.zero_le _,
      h.offRange, h.vramOk, h.oamOk, h.backShaped, h.frontShaped⟩
    · have hv : v.getLsbD 7 = true := hon
      simp only [hv, if_true]
      rfl
    · have hv : v.getLsbD 7 = false := hoff
      simp only [hv, Bool.false_eq_true, if_false]
      exact ⟨trivial, trivial, trivial⟩

/-- The copy of OAM DMA leaves OAM in order. -/
theorem dmaBytes_ok (s : State) (v : Byte) : (Memory.ofBytes (s.dmaBytes v)).ok Config.oamSize := by
  have h := Memory.ok_ofBytes (s.dmaBytes v)
  rwa [State.dmaBytes, List.length_map, List.length_range] at h

theorem writeDma_ppu_inv {s : State} (h : s.ppu.Inv) (v : Byte) : (s.writeDma v).ppu.Inv :=
  ⟨h.lyRange, h.dotRange, h.onMode, h.off, h.windowRows, h.offRange, h.vramOk, dmaBytes_ok s v, h.backShaped,
    h.frontShaped⟩

theorem writeTima_inv {t : Timer} (h : t.Inv) (v : Byte) : (t.writeTima v).Inv :=
  ⟨h.accBelowPeriod, fun hr => by cases hr⟩

theorem writeTac_inv {t : Timer} (h : t.Inv) (v : Byte) : (t.writeTac v).Inv := by
  refine ⟨?_, fun hr => ?_⟩
  · have := (timerPeriod_ge (v.extractLsb' 0 3)).1
    simp only [Timer.writeTac]
    exact Nat.lt_of_lt_of_le (by decide) this
  · have hw := h.window hr
    exact ⟨hw.1, by simp only [Timer.writeTac]; simp; omega⟩

/-! ### The bus -/

theorem writeIo_inv {s : State} (h : s.Inv) (r : IoReg) (v : Byte) : (s.writeIo r v).Inv := by
  have hp := h.ppu
  cases r
  case div => exact ⟨h.cpu, ⟨h.timer.accBelowPeriod, h.timer.window⟩, h.ppu, h.cart, h.wramOk, h.hramOk⟩
  case tima => exact ⟨h.cpu, writeTima_inv h.timer v, h.ppu, h.cart, h.wramOk, h.hramOk⟩
  case tma => exact ⟨h.cpu, ⟨h.timer.accBelowPeriod, h.timer.window⟩, h.ppu, h.cart, h.wramOk, h.hramOk⟩
  case tac => exact ⟨h.cpu, writeTac_inv h.timer v, h.ppu, h.cart, h.wramOk, h.hramOk⟩
  case lcdc => exact ⟨h.cpu, h.timer, writeLcdc_inv h.ppu v, h.cart, h.wramOk, h.hramOk⟩
  case dma => exact ⟨h.cpu, h.timer, writeDma_ppu_inv h.ppu v, h.cart, h.wramOk, h.hramOk⟩
  case p1 => exact ⟨h.cpu, h.timer, h.ppu, h.cart, h.wramOk, h.hramOk⟩
  case sb => exact ⟨h.cpu, h.timer, h.ppu, h.cart, h.wramOk, h.hramOk⟩
  case sc => exact ⟨h.cpu, h.timer, h.ppu, h.cart, h.wramOk, h.hramOk⟩
  case ifl => exact ⟨h.cpu, h.timer, h.ppu, h.cart, h.wramOk, h.hramOk⟩
  case ly => exact h
  all_goals
    exact ⟨h.cpu, h.timer,
      ⟨hp.lyRange, hp.dotRange, hp.onMode, hp.off, hp.windowRows, hp.offRange, hp.vramOk, hp.oamOk, hp.backShaped,
        hp.frontShaped⟩, h.cart, h.wramOk, h.hramOk⟩

/-- Every offset a place names is inside its array. -/
theorem place_offset (s : State) (a : Word) :
    match s.place a with
    | .vram i => i < Config.vramSize
    | .extRam i => i < s.cart.ramLen
    | .wram i => i < Config.wramSize
    | .oam i => i < Config.oamSize
    | .hram i => i < Config.hramSize
    | _ => True := by
  simp only [Config.vramSize, Config.wramSize, Config.oamSize, Config.hramSize]
  have c := place_cases s a
  revert c
  generalize s.place a = p
  intro c
  cases c
  case extRam on e => exact e ▸ ramIndex_lt on a
  all_goals first | exact True.intro | (dsimp only; omega)

/-- A bus write keeps the invariant. -/
theorem busWrite_inv {s : State} (h : s.Inv) (a : Word) (v : Byte) : (s.busWrite a v).Inv := by
  have ho := place_offset s a
  unfold State.busWrite
  split <;> rename_i hp <;> rw [hp] at ho
  · exact ⟨h.cpu, h.timer, h.ppu, controlWrite_inv h.cart a v, h.wramOk, h.hramOk⟩
  · exact ⟨h.cpu, h.timer, writeVram_inv h.ppu ho v, h.cart, h.wramOk, h.hramOk⟩
  · exact ⟨h.cpu, h.timer, h.ppu, extRamWrite_inv h.cart ho v, h.wramOk, h.hramOk⟩
  · exact ⟨h.cpu, h.timer, h.ppu, h.cart, Memory.ok_write h.wramOk ho v, h.hramOk⟩
  · exact ⟨h.cpu, h.timer, writeOam_inv h.ppu ho v, h.cart, h.wramOk, h.hramOk⟩
  · exact ⟨h.cpu, h.timer, h.ppu, h.cart, h.wramOk, Memory.ok_write h.hramOk ho v⟩
  · exact writeIo_inv h _ v
  · exact ⟨h.cpu, h.timer, h.ppu, h.cart, h.wramOk, h.hramOk⟩
  · exact h

/-! ### One instruction, the poll and the service sequence -/

/-- Outside the CPU the invariant sees what is unchanged. -/
theorem inv_of_outside {s t : State} (h : s.Inv) (ho : SameOutsideCpu s t) (hc : t.cpu.Inv) : t.Inv :=
  ⟨hc, by rw [ho.timer]; exact h.timer, by rw [ho.ppu]; exact h.ppu, by rw [ho.cart]; exact h.cart,
    by rw [ho.wram]; exact h.wramOk, by rw [ho.hram]; exact h.hramOk⟩

/-- An instruction that starts in the invariant, running and with no EI pending, ends in it. -/
theorem exec_inv {i : Instr} {s t : State} (h : s.Inv) (hr : s.cpu.halted = false) (hp : s.cpu.imePending = false)
    (he : exec i s = .next t) : t.Inv := by
  have e := exec_effect he
  have hc : t.cpu.Inv := by
    refine ⟨?_, fun hh => ?_⟩
    · rcases e.flags with hf | hf
      · rw [hf]; exact h.cpu.lowNibble
      · exact hf
    · rcases e.latches with hl | hl
      · rw [hl, hr] at hh; cases hh
      · rw [hl]; exact hp
  rcases e.outside with ho | ⟨a, v, ho⟩ | ⟨a, v, b, w, ho⟩
  · exact inv_of_outside h ho hc
  · exact inv_of_outside (busWrite_inv h a v) ho hc
  · exact inv_of_outside (busWrite_inv (busWrite_inv h a v) b w) ho hc

theorem wake_inv {s : State} (h : s.Inv) : s.wake.Inv := by
  refine inv_of_outside h (wake_outside s) ?_
  rw [wake_eq]
  refine ⟨h.cpu.lowNibble, fun hh => h.cpu.haltedCommitted ?_⟩
  exact ((Bool.and_eq_true _ _).mp hh).1

theorem commitIme_inv {s : State} (h : s.Inv) : s.commitIme.Inv := by
  refine inv_of_outside h (commitIme_outside s) ?_
  rw [commitIme_eq]
  exact ⟨h.cpu.lowNibble, fun _ => rfl⟩

theorem service_inv {s : State} (h : s.Inv) (k : IrqSource) : (s.service k).Inv := by
  have hw := busWrite_inv (busWrite_inv h (s.cpu.sp - 1) (hiByte s.cpu.pc)) (s.cpu.sp - 2) (loByte s.cpu.pc)
  have ho := service_outside s k rfl
  refine inv_of_outside ?_ ho ?_
  · exact ⟨hw.cpu, hw.timer, hw.ppu, hw.cart, hw.wramOk, hw.hramOk⟩
  · rw [service_cpu]
    exact ⟨h.cpu.lowNibble, fun _ => rfl⟩

/-! ### The devices -/

theorem advanceDevices_inv {s : State} (h : s.Inv) : s.advanceDevices.Inv := by
  have ht := timerAdvance_same s s.cycles
  have hp := ppuAdvance_same (s.timerAdvance s.cycles) s.cycles
  have e := advanceDevices_same s
  have htp : (s.timerAdvance s.cycles).ppu = s.ppu := by rw [ht.eq]
  have hdt : s.advanceDevices.timer = (s.timerAdvance s.cycles).timer := by
    rw [State.advanceDevices, hp.eq]
  refine ⟨by rw [e.eq]; exact h.cpu, ?_, ?_, by rw [e.eq]; exact h.cart, by rw [e.eq]; exact h.wramOk,
    by rw [e.eq]; exact h.hramOk⟩
  · rw [hdt]
    exact timerAdvance_inv h.timer _
  · exact ppuAdvance_inv (by rw [htp]; exact h.ppu) _

end Sys2Proof.Machine
end

