-- ==== Sys2Proof/Tests/Slice0.lean ====
section
/-! SUPPORT. Tests: the check of WellFormed, the decoder on every row of the opcode table, one step from the worked
examples of the spec (95_test_vectors.md and the examples of the rules), and for every statement with hypotheses a
state that meets them. -/

namespace Sys2Proof.Tests

open Sys2Proof.Machine

set_option Elab.async false

/-- The reset state with these bytes at 0x0100 in the image. -/
def code (bs : List Byte) : State :=
  { State.reset with cart := { State.reset.cart with rom := Memory.ofBytesAt 0x100 bs } }

/-- The state one CPU step later; the devices do not advance, as in parts 3 and 4.1 of the vectors. -/
def after (s : State) : State :=
  match s.cpuStep with
  | .next t => t
  | _ => s

/-! ### Well-formedness: one check, one term it refuses -/

theorem test_prefix_alone_is_ill_formed : (Instr.prefixCb 0x37).wellFormed = false := by decide
theorem test_extended_row_is_well_formed : Instr.swapA.wellFormed = true := by decide

/-! ### The decoder, row by row of opcode_table.json: the row's match value, and the instruction it stands for -/

/-- Every word decodes to the instruction beside it. -/
def allDecode (l : List (Nat × Nat × Instr)) : Bool :=
  l.all fun r => decodeTableWord r.1 r.2.1 == some r.2.2

theorem test_decode_primary_00 :
    allDecode
        [(8, 0x00, .nop), (8, 0x01, .ldBcImm 0), (8, 0x02, .ldIndBcA), (8, 0x03, .incBc),
          (8, 0x04, .incB), (8, 0x05, .decB), (8, 0x06, .ldBImm 0), (8, 0x07, .rlca)] = true ∧
    allDecode
        [(8, 0x08, .ldIndAbsSp 0), (8, 0x09, .addHlBc), (8, 0x0A, .ldAIndBc), (8, 0x0B, .decBc),
          (8, 0x0C, .incC), (8, 0x0D, .decC), (8, 0x0E, .ldCImm 0), (8, 0x0F, .rrca)] = true ∧
    allDecode
        [(8, 0x10, .stop 0), (8, 0x11, .ldDeImm 0), (8, 0x12, .ldIndDeA), (8, 0x13, .incDe),
          (8, 0x14, .incD), (8, 0x15, .decD), (8, 0x16, .ldDImm 0), (8, 0x17, .rla)] = true ∧
    allDecode
        [(8, 0x18, .jrRel 0), (8, 0x19, .addHlDe), (8, 0x1A, .ldAIndDe), (8, 0x1B, .decDe),
          (8, 0x1C, .incE), (8, 0x1D, .decE), (8, 0x1E, .ldEImm 0), (8, 0x1F, .rra)] = true := by
  decide +kernel

theorem test_decode_primary_20 :
    allDecode
        [(8, 0x20, .jrNzRel 0), (8, 0x21, .ldHlImm 0), (8, 0x22, .ldIndHlIncA), (8, 0x23, .incHl),
          (8, 0x24, .incH), (8, 0x25, .decH), (8, 0x26, .ldHImm 0), (8, 0x27, .daa)] = true ∧
    allDecode
        [(8, 0x28, .jrZRel 0), (8, 0x29, .addHlHl), (8, 0x2A, .ldAIndHlInc), (8, 0x2B, .decHl),
          (8, 0x2C, .incL), (8, 0x2D, .decL), (8, 0x2E, .ldLImm 0), (8, 0x2F, .cpl)] = true ∧
    allDecode
        [(8, 0x30, .jrNcRel 0), (8, 0x31, .ldSpImm 0), (8, 0x32, .ldIndHlDecA), (8, 0x33, .incSp),
          (8, 0x34, .incIndHl), (8, 0x35, .decIndHl), (8, 0x36, .ldIndHlImm 0), (8, 0x37, .scf)] = true ∧
    allDecode
        [(8, 0x38, .jrCRel 0), (8, 0x39, .addHlSp), (8, 0x3A, .ldAIndHlDec), (8, 0x3B, .decSp),
          (8, 0x3C, .incA), (8, 0x3D, .decA), (8, 0x3E, .ldAImm 0), (8, 0x3F, .ccf)] = true := by
  decide +kernel

theorem test_decode_primary_40 :
    allDecode
        [(8, 0x40, .ldBB), (8, 0x41, .ldBC), (8, 0x42, .ldBD), (8, 0x43, .ldBE),
          (8, 0x44, .ldBH), (8, 0x45, .ldBL), (8, 0x46, .ldBIndHl), (8, 0x47, .ldBA)] = true ∧
    allDecode
        [(8, 0x48, .ldCB), (8, 0x49, .ldCC), (8, 0x4A, .ldCD), (8, 0x4B, .ldCE),
          (8, 0x4C, .ldCH), (8, 0x4D, .ldCL), (8, 0x4E, .ldCIndHl), (8, 0x4F, .ldCA)] = true ∧
    allDecode
        [(8, 0x50, .ldDB), (8, 0x51, .ldDC), (8, 0x52, .ldDD), (8, 0x53, .ldDE),
          (8, 0x54, .ldDH), (8, 0x55, .ldDL), (8, 0x56, .ldDIndHl), (8, 0x57, .ldDA)] = true ∧
    allDecode
        [(8, 0x58, .ldEB), (8, 0x59, .ldEC), (8, 0x5A, .ldED), (8, 0x5B, .ldEE),
          (8, 0x5C, .ldEH), (8, 0x5D, .ldEL), (8, 0x5E, .ldEIndHl), (8, 0x5F, .ldEA)] = true := by
  decide +kernel

theorem test_decode_primary_60 :
    allDecode
        [(8, 0x60, .ldHB), (8, 0x61, .ldHC), (8, 0x62, .ldHD), (8, 0x63, .ldHE),
          (8, 0x64, .ldHH), (8, 0x65, .ldHL), (8, 0x66, .ldHIndHl), (8, 0x67, .ldHA)] = true ∧
    allDecode
        [(8, 0x68, .ldLB), (8, 0x69, .ldLC), (8, 0x6A, .ldLD), (8, 0x6B, .ldLE),
          (8, 0x6C, .ldLH), (8, 0x6D, .ldLL), (8, 0x6E, .ldLIndHl), (8, 0x6F, .ldLA)] = true ∧
    allDecode
        [(8, 0x70, .ldIndHlB), (8, 0x71, .ldIndHlC), (8, 0x72, .ldIndHlD), (8, 0x73, .ldIndHlE),
          (8, 0x74, .ldIndHlH), (8, 0x75, .ldIndHlL), (8, 0x76, .halt), (8, 0x77, .ldIndHlA)] = true ∧
    allDecode
        [(8, 0x78, .ldAB), (8, 0x79, .ldAC), (8, 0x7A, .ldAD), (8, 0x7B, .ldAE),
          (8, 0x7C, .ldAH), (8, 0x7D, .ldAL), (8, 0x7E, .ldAIndHl), (8, 0x7F, .ldAA)] = true := by
  decide +kernel

theorem test_decode_primary_80 :
    allDecode
        [(8, 0x80, .addAB), (8, 0x81, .addAC), (8, 0x82, .addAD), (8, 0x83, .addAE),
          (8, 0x84, .addAH), (8, 0x85, .addAL), (8, 0x86, .addAIndHl), (8, 0x87, .addAA)] = true ∧
    allDecode
        [(8, 0x88, .adcAB), (8, 0x89, .adcAC), (8, 0x8A, .adcAD), (8, 0x8B, .adcAE),
          (8, 0x8C, .adcAH), (8, 0x8D, .adcAL), (8, 0x8E, .adcAIndHl), (8, 0x8F, .adcAA)] = true ∧
    allDecode
        [(8, 0x90, .subB), (8, 0x91, .subC), (8, 0x92, .subD), (8, 0x93, .subE),
          (8, 0x94, .subH), (8, 0x95, .subL), (8, 0x96, .subIndHl), (8, 0x97, .subA)] = true ∧
    allDecode
        [(8, 0x98, .sbcAB), (8, 0x99, .sbcAC), (8, 0x9A, .sbcAD), (8, 0x9B, .sbcAE),
          (8, 0x9C, .sbcAH), (8, 0x9D, .sbcAL), (8, 0x9E, .sbcAIndHl), (8, 0x9F, .sbcAA)] = true := by
  decide +kernel

theorem test_decode_primary_A0 :
    allDecode
        [(8, 0xA0, .andB), (8, 0xA1, .andC), (8, 0xA2, .andD), (8, 0xA3, .andE),
          (8, 0xA4, .andH), (8, 0xA5, .andL), (8, 0xA6, .andIndHl), (8, 0xA7, .andA)] = true ∧
    allDecode
        [(8, 0xA8, .xorB), (8, 0xA9, .xorC), (8, 0xAA, .xorD), (8, 0xAB, .xorE),
          (8, 0xAC, .xorH), (8, 0xAD, .xorL), (8, 0xAE, .xorIndHl), (8, 0xAF, .xorA)] = true ∧
    allDecode
        [(8, 0xB0, .orB), (8, 0xB1, .orC), (8, 0xB2, .orD), (8, 0xB3, .orE),
          (8, 0xB4, .orH), (8, 0xB5, .orL), (8, 0xB6, .orIndHl), (8, 0xB7, .orA)] = true ∧
    allDecode
        [(8, 0xB8, .cpB), (8, 0xB9, .cpC), (8, 0xBA, .cpD), (8, 0xBB, .cpE),
          (8, 0xBC, .cpH), (8, 0xBD, .cpL), (8, 0xBE, .cpIndHl), (8, 0xBF, .cpA)] = true := by
  decide +kernel

theorem test_decode_primary_C0 :
    allDecode
        [(8, 0xC0, .retNz), (8, 0xC1, .popBc), (8, 0xC2, .jpNzImm 0), (8, 0xC3, .jpImm 0),
          (8, 0xC4, .callNzImm 0), (8, 0xC5, .pushBc), (8, 0xC6, .addAImm 0), (8, 0xC7, .rst00)] = true ∧
    allDecode
        [(8, 0xC8, .retZ), (8, 0xC9, .ret), (8, 0xCA, .jpZImm 0), (8, 0xCB, .rlcB),
          (8, 0xCC, .callZImm 0), (8, 0xCD, .callImm 0), (8, 0xCE, .adcAImm 0), (8, 0xCF, .rst08)] = true ∧
    allDecode
        [(8, 0xD0, .retNc), (8, 0xD1, .popDe), (8, 0xD2, .jpNcImm 0), (8, 0xD3, .illegalD3),
          (8, 0xD4, .callNcImm 0), (8, 0xD5, .pushDe), (8, 0xD6, .subImm 0), (8, 0xD7, .rst10)] = true ∧
    allDecode
        [(8, 0xD8, .retC), (8, 0xD9, .reti), (8, 0xDA, .jpCImm 0), (8, 0xDB, .illegalDB),
          (8, 0xDC, .callCImm 0), (8, 0xDD, .illegalDD), (8, 0xDE, .sbcAImm 0), (8, 0xDF, .rst18)] = true := by
  decide +kernel

theorem test_decode_primary_E0 :
    allDecode
        [(8, 0xE0, .ldhIndImmA 0), (8, 0xE1, .popHl), (8, 0xE2, .ldhIndCA), (8, 0xE3, .illegalE3),
          (8, 0xE4, .illegalE4), (8, 0xE5, .pushHl), (8, 0xE6, .andImm 0), (8, 0xE7, .rst20)] = true ∧
    allDecode
        [(8, 0xE8, .addSpRel 0), (8, 0xE9, .jpHl), (8, 0xEA, .ldIndAbsA 0), (8, 0xEB, .illegalEB),
          (8, 0xEC, .illegalEC), (8, 0xED, .illegalED), (8, 0xEE, .xorImm 0), (8, 0xEF, .rst28)] = true ∧
    allDecode
        [(8, 0xF0, .ldhAIndImm 0), (8, 0xF1, .popAf), (8, 0xF2, .ldhAIndC), (8, 0xF3, .di),
          (8, 0xF4, .illegalF4), (8, 0xF5, .pushAf), (8, 0xF6, .orImm 0), (8, 0xF7, .rst30)] = true ∧
    allDecode
        [(8, 0xF8, .ldHlSpRel 0), (8, 0xF9, .ldSpHl), (8, 0xFA, .ldAIndAbs 0), (8, 0xFB, .ei),
          (8, 0xFC, .illegalFC), (8, 0xFD, .illegalFD), (8, 0xFE, .cpImm 0), (8, 0xFF, .rst38)] = true := by
  decide +kernel

theorem test_decode_extended_00 :
    allDecode
        [(16, 0xCB00, .rlcB), (16, 0xCB01, .rlcC), (16, 0xCB02, .rlcD), (16, 0xCB03, .rlcE),
          (16, 0xCB04, .rlcH), (16, 0xCB05, .rlcL), (16, 0xCB06, .rlcIndHl), (16, 0xCB07, .rlcA)] = true ∧
    allDecode
        [(16, 0xCB08, .rrcB), (16, 0xCB09, .rrcC), (16, 0xCB0A, .rrcD), (16, 0xCB0B, .rrcE),
          (16, 0xCB0C, .rrcH), (16, 0xCB0D, .rrcL), (16, 0xCB0E, .rrcIndHl), (16, 0xCB0F, .rrcA)] = true ∧
    allDecode
        [(16, 0xCB10, .rlB), (16, 0xCB11, .rlC), (16, 0xCB12, .rlD), (16, 0xCB13, .rlE),
          (16, 0xCB14, .rlH), (16, 0xCB15, .rlL), (16, 0xCB16, .rlIndHl), (16, 0xCB17, .rlA)] = true ∧
    allDecode
        [(16, 0xCB18, .rrB), (16, 0xCB19, .rrC), (16, 0xCB1A, .rrD), (16, 0xCB1B, .rrE),
          (16, 0xCB1C, .rrH), (16, 0xCB1D, .rrL), (16, 0xCB1E, .rrIndHl), (16, 0xCB1F, .rrA)] = true := by
  decide +kernel

theorem test_decode_extended_20 :
    allDecode
        [(16, 0xCB20, .slaB), (16, 0xCB21, .slaC), (16, 0xCB22, .slaD), (16, 0xCB23, .slaE),
          (16, 0xCB24, .slaH), (16, 0xCB25, .slaL), (16, 0xCB26, .slaIndHl), (16, 0xCB27, .slaA)] = true ∧
    allDecode
        [(16, 0xCB28, .sraB), (16, 0xCB29, .sraC), (16, 0xCB2A, .sraD), (16, 0xCB2B, .sraE),
          (16, 0xCB2C, .sraH), (16, 0xCB2D, .sraL), (16, 0xCB2E, .sraIndHl), (16, 0xCB2F, .sraA)] = true ∧
    allDecode
        [(16, 0xCB30, .swapB), (16, 0xCB31, .swapC), (16, 0xCB32, .swapD), (16, 0xCB33, .swapE),
          (16, 0xCB34, .swapH), (16, 0xCB35, .swapL), (16, 0xCB36, .swapIndHl), (16, 0xCB37, .swapA)] = true ∧
    allDecode
        [(16, 0xCB38, .srlB), (16, 0xCB39, .srlC), (16, 0xCB3A, .srlD), (16, 0xCB3B, .srlE),
          (16, 0xCB3C, .srlH), (16, 0xCB3D, .srlL), (16, 0xCB3E, .srlIndHl), (16, 0xCB3F, .srlA)] = true := by
  decide +kernel

theorem test_decode_extended_40 :
    allDecode
        [(16, 0xCB40, .bit0B), (16, 0xCB41, .bit0C), (16, 0xCB42, .bit0D), (16, 0xCB43, .bit0E),
          (16, 0xCB44, .bit0H), (16, 0xCB45, .bit0L), (16, 0xCB46, .bit0IndHl), (16, 0xCB47, .bit0A)] = true ∧
    allDecode
        [(16, 0xCB48, .bit1B), (16, 0xCB49, .bit1C), (16, 0xCB4A, .bit1D), (16, 0xCB4B, .bit1E),
          (16, 0xCB4C, .bit1H), (16, 0xCB4D, .bit1L), (16, 0xCB4E, .bit1IndHl), (16, 0xCB4F, .bit1A)] = true ∧
    allDecode
        [(16, 0xCB50, .bit2B), (16, 0xCB51, .bit2C), (16, 0xCB52, .bit2D), (16, 0xCB53, .bit2E),
          (16, 0xCB54, .bit2H), (16, 0xCB55, .bit2L), (16, 0xCB56, .bit2IndHl), (16, 0xCB57, .bit2A)] = true ∧
    allDecode
        [(16, 0xCB58, .bit3B), (16, 0xCB59, .bit3C), (16, 0xCB5A, .bit3D), (16, 0xCB5B, .bit3E),
          (16, 0xCB5C, .bit3H), (16, 0xCB5D, .bit3L), (16, 0xCB5E, .bit3IndHl), (16, 0xCB5F, .bit3A)] = true := by
  decide +kernel

theorem test_decode_extended_60 :
    allDecode
        [(16, 0xCB60, .bit4B), (16, 0xCB61, .bit4C), (16, 0xCB62, .bit4D), (16, 0xCB63, .bit4E),
          (16, 0xCB64, .bit4H), (16, 0xCB65, .bit4L), (16, 0xCB66, .bit4IndHl), (16, 0xCB67, .bit4A)] = true ∧
    allDecode
        [(16, 0xCB68, .bit5B), (16, 0xCB69, .bit5C), (16, 0xCB6A, .bit5D), (16, 0xCB6B, .bit5E),
          (16, 0xCB6C, .bit5H), (16, 0xCB6D, .bit5L), (16, 0xCB6E, .bit5IndHl), (16, 0xCB6F, .bit5A)] = true ∧
    allDecode
        [(16, 0xCB70, .bit6B), (16, 0xCB71, .bit6C), (16, 0xCB72, .bit6D), (16, 0xCB73, .bit6E),
          (16, 0xCB74, .bit6H), (16, 0xCB75, .bit6L), (16, 0xCB76, .bit6IndHl), (16, 0xCB77, .bit6A)] = true ∧
    allDecode
        [(16, 0xCB78, .bit7B), (16, 0xCB79, .bit7C), (16, 0xCB7A, .bit7D), (16, 0xCB7B, .bit7E),
          (16, 0xCB7C, .bit7H), (16, 0xCB7D, .bit7L), (16, 0xCB7E, .bit7IndHl), (16, 0xCB7F, .bit7A)] = true := by
  decide +kernel

theorem test_decode_extended_80 :
    allDecode
        [(16, 0xCB80, .res0B), (16, 0xCB81, .res0C), (16, 0xCB82, .res0D), (16, 0xCB83, .res0E),
          (16, 0xCB84, .res0H), (16, 0xCB85, .res0L), (16, 0xCB86, .res0IndHl), (16, 0xCB87, .res0A)] = true ∧
    allDecode
        [(16, 0xCB88, .res1B), (16, 0xCB89, .res1C), (16, 0xCB8A, .res1D), (16, 0xCB8B, .res1E),
          (16, 0xCB8C, .res1H), (16, 0xCB8D, .res1L), (16, 0xCB8E, .res1IndHl), (16, 0xCB8F, .res1A)] = true ∧
    allDecode
        [(16, 0xCB90, .res2B), (16, 0xCB91, .res2C), (16, 0xCB92, .res2D), (16, 0xCB93, .res2E),
          (16, 0xCB94, .res2H), (16, 0xCB95, .res2L), (16, 0xCB96, .res2IndHl), (16, 0xCB97, .res2A)] = true ∧
    allDecode
        [(16, 0xCB98, .res3B), (16, 0xCB99, .res3C), (16, 0xCB9A, .res3D), (16, 0xCB9B, .res3E),
          (16, 0xCB9C, .res3H), (16, 0xCB9D, .res3L), (16, 0xCB9E, .res3IndHl), (16, 0xCB9F, .res3A)] = true := by
  decide +kernel

theorem test_decode_extended_A0 :
    allDecode
        [(16, 0xCBA0, .res4B), (16, 0xCBA1, .res4C), (16, 0xCBA2, .res4D), (16, 0xCBA3, .res4E),
          (16, 0xCBA4, .res4H), (16, 0xCBA5, .res4L), (16, 0xCBA6, .res4IndHl), (16, 0xCBA7, .res4A)] = true ∧
    allDecode
        [(16, 0xCBA8, .res5B), (16, 0xCBA9, .res5C), (16, 0xCBAA, .res5D), (16, 0xCBAB, .res5E),
          (16, 0xCBAC, .res5H), (16, 0xCBAD, .res5L), (16, 0xCBAE, .res5IndHl), (16, 0xCBAF, .res5A)] = true ∧
    allDecode
        [(16, 0xCBB0, .res6B), (16, 0xCBB1, .res6C), (16, 0xCBB2, .res6D), (16, 0xCBB3, .res6E),
          (16, 0xCBB4, .res6H), (16, 0xCBB5, .res6L), (16, 0xCBB6, .res6IndHl), (16, 0xCBB7, .res6A)] = true ∧
    allDecode
        [(16, 0xCBB8, .res7B), (16, 0xCBB9, .res7C), (16, 0xCBBA, .res7D), (16, 0xCBBB, .res7E),
          (16, 0xCBBC, .res7H), (16, 0xCBBD, .res7L), (16, 0xCBBE, .res7IndHl), (16, 0xCBBF, .res7A)] = true := by
  decide +kernel

theorem test_decode_extended_C0 :
    allDecode
        [(16, 0xCBC0, .set0B), (16, 0xCBC1, .set0C), (16, 0xCBC2, .set0D), (16, 0xCBC3, .set0E),
          (16, 0xCBC4, .set0H), (16, 0xCBC5, .set0L), (16, 0xCBC6, .set0IndHl), (16, 0xCBC7, .set0A)] = true ∧
    allDecode
        [(16, 0xCBC8, .set1B), (16, 0xCBC9, .set1C), (16, 0xCBCA, .set1D), (16, 0xCBCB, .set1E),
          (16, 0xCBCC, .set1H), (16, 0xCBCD, .set1L), (16, 0xCBCE, .set1IndHl), (16, 0xCBCF, .set1A)] = true ∧
    allDecode
        [(16, 0xCBD0, .set2B), (16, 0xCBD1, .set2C), (16, 0xCBD2, .set2D), (16, 0xCBD3, .set2E),
          (16, 0xCBD4, .set2H), (16, 0xCBD5, .set2L), (16, 0xCBD6, .set2IndHl), (16, 0xCBD7, .set2A)] = true ∧
    allDecode
        [(16, 0xCBD8, .set3B), (16, 0xCBD9, .set3C), (16, 0xCBDA, .set3D), (16, 0xCBDB, .set3E),
          (16, 0xCBDC, .set3H), (16, 0xCBDD, .set3L), (16, 0xCBDE, .set3IndHl), (16, 0xCBDF, .set3A)] = true := by
  decide +kernel

theorem test_decode_extended_E0 :
    allDecode
        [(16, 0xCBE0, .set4B), (16, 0xCBE1, .set4C), (16, 0xCBE2, .set4D), (16, 0xCBE3, .set4E),
          (16, 0xCBE4, .set4H), (16, 0xCBE5, .set4L), (16, 0xCBE6, .set4IndHl), (16, 0xCBE7, .set4A)] = true ∧
    allDecode
        [(16, 0xCBE8, .set5B), (16, 0xCBE9, .set5C), (16, 0xCBEA, .set5D), (16, 0xCBEB, .set5E),
          (16, 0xCBEC, .set5H), (16, 0xCBED, .set5L), (16, 0xCBEE, .set5IndHl), (16, 0xCBEF, .set5A)] = true ∧
    allDecode
        [(16, 0xCBF0, .set6B), (16, 0xCBF1, .set6C), (16, 0xCBF2, .set6D), (16, 0xCBF3, .set6E),
          (16, 0xCBF4, .set6H), (16, 0xCBF5, .set6L), (16, 0xCBF6, .set6IndHl), (16, 0xCBF7, .set6A)] = true ∧
    allDecode
        [(16, 0xCBF8, .set7B), (16, 0xCBF9, .set7C), (16, 0xCBFA, .set7D), (16, 0xCBFB, .set7E),
          (16, 0xCBFC, .set7H), (16, 0xCBFD, .set7L), (16, 0xCBFE, .set7IndHl), (16, 0xCBFF, .set7A)] = true := by
  decide +kernel

/-! ### Operands: the decoding rows of 95_test_vectors.md, part 3.0 -/

theorem test_decode_06_7F : decode [0x06, 0x7F] = .ok (.ldBImm 0x7F, []) := by decide
theorem test_decode_18_80 : decode [0x18, 0x80] = .ok (.jrRel 0x80, []) := by decide
theorem test_decode_20_7F : decode [0x20, 0x7F] = .ok (.jrNzRel 0x7F, []) := by decide
theorem test_decode_01_34_12 : decode [0x01, 0x34, 0x12] = .ok (.ldBcImm 0x1234, []) := by decide
theorem test_decode_08_FF_DF : decode [0x08, 0xFF, 0xDF] = .ok (.ldIndAbsSp 0xDFFF, []) := by decide
theorem test_decode_C3_00_02 : decode [0xC3, 0x00, 0x02] = .ok (.jpImm 0x0200, []) := by decide
theorem test_decode_C4_CD_AB : decode [0xC4, 0xCD, 0xAB] = .ok (.callNzImm 0xABCD, []) := by decide
theorem test_decode_E0_44 : decode [0xE0, 0x44] = .ok (.ldhIndImmA 0x44, []) := by decide
theorem test_decode_E8_FE : decode [0xE8, 0xFE] = .ok (.addSpRel 0xFE, []) := by decide
theorem test_decode_F8_02 : decode [0xF8, 0x02] = .ok (.ldHlSpRel 0x02, []) := by decide
theorem test_decode_10_00 : decode [0x10, 0x00] = .ok (.stop 0x00, []) := by decide
theorem test_decode_CB_46 : decode [0xCB, 0x46] = .ok (.bit0IndHl, []) := by decide
theorem test_decode_CB_F8 : decode [0xCB, 0xF8] = .ok (.set7B, []) := by decide

/-! ### One step: the rows of 95_test_vectors.md, parts 3.1 to 3.7 -/

theorem test_step_ld_b_c :
    (fun t : State => (t.cpu.b, t.cpu.pc))
      (after { code [0x41] with
        cpu := { State.reset.cpu with b := 0x00, c := 0x5A } }) = (0x5A, 0x0101) := by
  decide +kernel
theorem test_step_ld_a_a :
    (fun t : State => (t.cpu.pc, t.cycles))
      (after { code [0x7F] with
        cpu := { State.reset.cpu with a := 0x9C } }) = (0x0101, 4) := by
  decide +kernel
theorem test_step_ld_d_0xff :
    (fun t : State => (t.cpu.d, t.cpu.pc))
      (after { code [0x16, 0xFF] with
        cpu := { State.reset.cpu with d := 0x00 } }) = (0xFF, 0x0102) := by
  decide +kernel
theorem test_step_ld_e_hl :
    (fun t : State => (t.cpu.e, t.cpu.pc))
      (after { code [0x5E] with
        cpu := { State.reset.cpu with h := 0xC1, l := 0x23, e := 0x00 }
        wram := [(0x123, 0x99)] }) = (0x99, 0x0101) := by
  decide +kernel
theorem test_step_ld_hl_b :
    (fun t : State => (t.wram.read 0x0, t.cpu.pc))
      (after { code [0x70] with
        cpu := { State.reset.cpu with h := 0xC0, l := 0x00, b := 0x77 } }) = (0x77, 0x0101) := by
  decide +kernel
theorem test_step_ld_hl_0x12 :
    (fun t : State => (t.hram.read 0x0, t.cpu.pc))
      (after { code [0x36, 0x12] with
        cpu := { State.reset.cpu with h := 0xFF, l := 0x80 } }) = (0x12, 0x0102) := by
  decide +kernel
theorem test_step_ld_a_bc :
    (fun t : State => (t.cpu.a, t.cpu.pc))
      (after { code [0x0A] with
        cpu := { State.reset.cpu with b := 0xE0, c := 0x10, a := 0x00 }
        wram := [(0x10, 0xAB)] }) = (0xAB, 0x0101) := by
  decide +kernel
theorem test_step_ld_a_de :
    (fun t : State => (t.cpu.a, t.cpu.pc))
      (after { code [0x1A] with
        cpu := { State.reset.cpu with d := 0x01, e := 0x00, a := 0x00 } }) = (0x1A, 0x0101) := by
  decide +kernel
theorem test_step_ld_bc_a :
    (fun t : State => (t.cpu.pc, t.cycles))
      (after { code [0x02] with
        cpu := { State.reset.cpu with b := 0x20, c := 0x00, a := 0x05 } }) = (0x0101, 8) := by
  decide +kernel
theorem test_step_ld_de_a :
    (fun t : State => (t.cpu.pc, t.cycles))
      (after { code [0x12] with
        cpu := { State.reset.cpu with d := 0xFE, e := 0xA0, a := 0x33 } }) = (0x0101, 8) := by
  decide +kernel
theorem test_step_ld_a_0x8000 :
    (fun t : State => (t.cpu.a, t.cpu.pc))
      (after { code [0xFA, 0x00, 0x80] with
        cpu := { State.reset.cpu with a := 0x00 }
        ppu := { State.reset.ppu with vram := [(0x0, 0x3C)] } }) = (0x3C, 0x0103) := by
  decide +kernel
theorem test_step_ld_a_0x8000_2 :
    (fun t : State => (t.cpu.a, t.cpu.pc))
      (after { code [0xFA, 0x00, 0x80] with
        cpu := { State.reset.cpu with a := 0x00 }
        ppu := { State.reset.ppu with mode := .transfer, dot := 100, vram := [(0x0, 0x3C)] } }) = (0xFF, 0x0103) := by
  decide +kernel
theorem test_step_ld_0xfe00_a :
    (fun t : State => (t.cpu.pc, t.cycles))
      (after { code [0xEA, 0x00, 0xFE] with
        cpu := { State.reset.cpu with a := 0x11 } }) = (0x0103, 16) := by
  decide +kernel
theorem test_step_ld_0xfe00_a_2 :
    (fun t : State => (t.ppu.oam.read 0x0, t.cpu.pc))
      (after { code [0xEA, 0x00, 0xFE] with
        cpu := { State.reset.cpu with a := 0x11 }
        ppu := { State.reset.ppu with mode := .hblank, dot := 300 } }) = (0x11, 0x0103) := by
  decide +kernel
theorem test_step_ldh_a_c :
    (fun t : State => (t.cpu.a, t.cpu.pc))
      (after { code [0xF2] with
        cpu := { State.reset.cpu with c := 0x44, a := 0x00 }
        ppu := { State.reset.ppu with mode := .vblank, ly := 144 } }) = (0x90, 0x0101) := by
  decide +kernel
theorem test_step_ldh_c_a :
    (fun t : State => (t.hram.read 0x0, t.cpu.pc))
      (after { code [0xE2] with
        cpu := { State.reset.cpu with c := 0x80, a := 0x5C } }) = (0x5C, 0x0101) := by
  decide +kernel
theorem test_step_ldh_a_0x0f :
    (fun t : State => (t.cpu.a, t.cpu.pc))
      (after { code [0xF0, 0x0F] with
        cpu := { State.reset.cpu with a := 0x00 } }) = (0xE1, 0x0102) := by
  decide +kernel
theorem test_step_ldh_a_0x00 :
    (fun t : State => (t.cpu.a, t.cpu.pc))
      (after { code [0xF0, 0x00] with
        cpu := { State.reset.cpu with a := 0x00 } }) = (0xCF, 0x0102) := by
  decide +kernel
theorem test_step_ldh_0xff_a :
    (fun t : State => (t.irq.ie5, t.cpu.pc))
      (after { code [0xE0, 0xFF] with
        cpu := { State.reset.cpu with a := 0xFF } }) = (0b11111, 0x0102) := by
  decide +kernel
theorem test_step_ldh_0x04_a :
    (fun t : State => (t.timer.div16, t.cpu.pc))
      (after { code [0xE0, 0x04] with
        cpu := { State.reset.cpu with a := 0x55 } }) = (0, 0x0102) := by
  decide +kernel
theorem test_step_ld_a_hlinc :
    (fun t : State => (t.cpu.a, t.cpu.h))
      (after { code [0x2A] with
        cpu := { State.reset.cpu with h := 0xC0, l := 0xFF, a := 0x00 }
        wram := [(0xFF, 0x21)] }) = (0x21, 0xC1) := by
  decide +kernel
theorem test_step_ld_a_hlinc_2 :
    (fun t : State => (t.cpu.a, t.cpu.h))
      (after { code [0x2A] with
        cpu := { State.reset.cpu with h := 0xFF, l := 0xFF, a := 0x77 }
        irq := { State.reset.irq with ie5 := 0b10101 } }) = (0x15, 0x00) := by
  decide +kernel
theorem test_step_ld_a_hldec :
    (fun t : State => (t.cpu.a, t.cpu.h))
      (after { code [0x3A] with
        cpu := { State.reset.cpu with h := 0x00, l := 0x00, a := 0x77 } }) = (0x00, 0xFF) := by
  decide +kernel
theorem test_step_ld_hlinc_a :
    (fun t : State => (t.wram.read 0x1FFF, t.cpu.h))
      (after { code [0x22] with
        cpu := { State.reset.cpu with h := 0xDF, l := 0xFF, a := 0x42 } }) = (0x42, 0xE0) := by
  decide +kernel
theorem test_step_ld_hldec_a :
    (fun t : State => (t.wram.read 0x0, t.cpu.h))
      (after { code [0x32] with
        cpu := { State.reset.cpu with h := 0xE0, l := 0x00, a := 0x42 } }) = (0x42, 0xDF) := by
  decide +kernel
theorem test_step_ld_bc_0x1234 :
    (fun t : State => (t.cpu.b, t.cpu.c))
      (after { code [0x01, 0x34, 0x12] with
        cpu := { State.reset.cpu with b := 0x00, c := 0x00 } }) = (0x12, 0x34) := by
  decide +kernel
theorem test_step_ld_sp_0xd000 :
    (fun t : State => (t.cpu.sp, t.cpu.pc))
      (after (code [0x31, 0x00, 0xD0])) = (0xD000, 0x0103) := by
  decide +kernel
theorem test_step_ld_0xc100_sp :
    (fun t : State => (t.wram.read 0x100, t.wram.read 0x101))
      (after { code [0x08, 0x00, 0xC1] with
        cpu := { State.reset.cpu with sp := 0xFFF8 } }) = (0xF8, 0xFF) := by
  decide +kernel
theorem test_step_ld_0xdfff_sp :
    (fun t : State => (t.wram.read 0x0, t.wram.read 0x1FFF))
      (after { code [0x08, 0xFF, 0xDF] with
        cpu := { State.reset.cpu with sp := 0x1234 } }) = (0x12, 0x34) := by
  decide +kernel
theorem test_step_ld_sp_hl :
    (fun t : State => (t.cpu.sp, t.cpu.pc))
      (after { code [0xF9] with
        cpu := { State.reset.cpu with h := 0xC8, l := 0x00 } }) = (0xC800, 0x0101) := by
  decide +kernel
theorem test_step_ld_hl_spinc2 :
    (fun t : State => (t.cpu.h, t.cpu.l))
      (after { code [0xF8, 0x02] with
        cpu := { State.reset.cpu with sp := 0xFFF8, h := 0x00, l := 0x00, f := 0xF0 } }) = (0xFF, 0xFA) := by
  decide +kernel
theorem test_step_ld_hl_spinc8 :
    (fun t : State => (t.cpu.f, t.cpu.pc))
      (after { code [0xF8, 0x08] with
        cpu := { State.reset.cpu with sp := 0xFFF8, h := 0x00, l := 0x00, f := 0x00 } }) = (0x30, 0x0102) := by
  decide +kernel
theorem test_step_push_bc :
    (fun t : State => (t.hram.read 0x7C, t.hram.read 0x7D))
      (after { code [0xC5] with
        cpu := { State.reset.cpu with b := 0x12, c := 0x34, sp := 0xFFFE } }) = (0x34, 0x12) := by
  decide +kernel
theorem test_step_push_af :
    (fun t : State => (t.wram.read 0xFFE, t.wram.read 0xFFF))
      (after { code [0xF5] with
        cpu := { State.reset.cpu with a := 0x12, f := 0xB0, sp := 0xD000 } }) = (0xB0, 0x12) := by
  decide +kernel
theorem test_step_push_de :
    (fun t : State => (t.cpu.sp, t.irq.ie5))
      (after { code [0xD5] with
        cpu := { State.reset.cpu with d := 0xAB, e := 0x3F, sp := 0x0001 } }) = (0xFFFF, 0b11111) := by
  decide +kernel
theorem test_step_pop_af :
    (fun t : State => (t.cpu.a, t.cpu.sp))
      (after { code [0xF1] with
        cpu := { State.reset.cpu with sp := 0xC000, a := 0x00, f := 0x00 }
        wram := [(0x0, 0xFF), (0x1, 0xFF)] }) = (0xFF, 0xC002) := by
  decide +kernel
theorem test_step_pop_hl :
    (fun t : State => (t.cpu.l, t.cpu.sp))
      (after { code [0xE1] with
        cpu := { State.reset.cpu with sp := 0xFFFF, h := 0x00, l := 0x00 }
        irq := { State.reset.irq with ie5 := 0b11011 } }) = (0x1B, 0x0001) := by
  decide +kernel
theorem test_step_add_a_b :
    (fun t : State => (t.cpu.a, t.cpu.f))
      (after { code [0x80] with
        cpu := { State.reset.cpu with a := 0x3A, b := 0xC6, f := 0x00 } }) = (0x00, 0xB0) := by
  decide +kernel
theorem test_step_add_a_a :
    (fun t : State => (t.cpu.a, t.cpu.f))
      (after { code [0x87] with
        cpu := { State.reset.cpu with a := 0x80, f := 0x00 } }) = (0x00, 0x90) := by
  decide +kernel
theorem test_step_add_a_c :
    (fun t : State => (t.cpu.a, t.cpu.f))
      (after { code [0x81] with
        cpu := { State.reset.cpu with a := 0x0F, c := 0x01, f := 0xF0 } }) = (0x10, 0x20) := by
  decide +kernel
theorem test_step_add_a_hl :
    (fun t : State => (t.cpu.a, t.cpu.f))
      (after { code [0x86] with
        cpu := { State.reset.cpu with a := 0x3C, h := 0xC0, l := 0x00, f := 0x00 }
        wram := [(0x0, 0x12)] }) = (0x4E, 0x00) := by
  decide +kernel
theorem test_step_add_a_0xff :
    (fun t : State => (t.cpu.a, t.cpu.f))
      (after { code [0xC6, 0xFF] with
        cpu := { State.reset.cpu with a := 0x3C, f := 0x00 } }) = (0x3B, 0x30) := by
  decide +kernel
theorem test_step_adc_a_b :
    (fun t : State => (t.cpu.a, t.cpu.f))
      (after { code [0x88] with
        cpu := { State.reset.cpu with a := 0xE1, b := 0x0F, f := 0x10 } }) = (0xF1, 0x20) := by
  decide +kernel
theorem test_step_adc_a_hl :
    (fun t : State => (t.cpu.a, t.cpu.f))
      (after { code [0x8E] with
        cpu := { State.reset.cpu with a := 0xE1, h := 0xC0, l := 0x00, f := 0x10 }
        wram := [(0x0, 0x1E)] }) = (0x00, 0xB0) := by
  decide +kernel
theorem test_step_adc_a_0xff :
    (fun t : State => (t.cpu.f, t.cpu.pc))
      (after { code [0xCE, 0xFF] with
        cpu := { State.reset.cpu with a := 0x00, f := 0x10 } }) = (0xB0, 0x0102) := by
  decide +kernel
theorem test_step_adc_a_0x00 :
    (fun t : State => (t.cpu.a, t.cpu.f))
      (after { code [0xCE, 0x00] with
        cpu := { State.reset.cpu with a := 0x0F, f := 0x10 } }) = (0x10, 0x20) := by
  decide +kernel
theorem test_step_sub_b :
    (fun t : State => (t.cpu.a, t.cpu.f))
      (after { code [0x90] with
        cpu := { State.reset.cpu with a := 0x3E, b := 0x3E, f := 0x00 } }) = (0x00, 0xC0) := by
  decide +kernel
theorem test_step_sub_a :
    (fun t : State => (t.cpu.a, t.cpu.f))
      (after { code [0x97] with
        cpu := { State.reset.cpu with a := 0x5B, f := 0x10 } }) = (0x00, 0xC0) := by
  decide +kernel
theorem test_step_sub_hl :
    (fun t : State => (t.cpu.a, t.cpu.f))
      (after { code [0x96] with
        cpu := { State.reset.cpu with a := 0x3E, h := 0xC0, l := 0x00, f := 0x00 }
        wram := [(0x0, 0x40)] }) = (0xFE, 0x50) := by
  decide +kernel
theorem test_step_sub_0x0f :
    (fun t : State => (t.cpu.a, t.cpu.f))
      (after { code [0xD6, 0x0F] with
        cpu := { State.reset.cpu with a := 0x3E, f := 0x00 } }) = (0x2F, 0x60) := by
  decide +kernel
theorem test_step_sub_0x01 :
    (fun t : State => (t.cpu.a, t.cpu.f))
      (after { code [0xD6, 0x01] with
        cpu := { State.reset.cpu with a := 0x00, f := 0x00 } }) = (0xFF, 0x70) := by
  decide +kernel
theorem test_step_sbc_a_b :
    (fun t : State => (t.cpu.a, t.cpu.f))
      (after { code [0x98] with
        cpu := { State.reset.cpu with a := 0x3B, b := 0x2A, f := 0x10 } }) = (0x10, 0x40) := by
  decide +kernel
theorem test_step_sbc_a_hl :
    (fun t : State => (t.cpu.a, t.cpu.f))
      (after { code [0x9E] with
        cpu := { State.reset.cpu with a := 0x3B, h := 0xC0, l := 0x00, f := 0x10 }
        wram := [(0x0, 0x4F)] }) = (0xEB, 0x70) := by
  decide +kernel
theorem test_step_sbc_a_0x3a :
    (fun t : State => (t.cpu.a, t.cpu.f))
      (after { code [0xDE, 0x3A] with
        cpu := { State.reset.cpu with a := 0x3B, f := 0x10 } }) = (0x00, 0xC0) := by
  decide +kernel
theorem test_step_sbc_a_0xff :
    (fun t : State => (t.cpu.f, t.cpu.pc))
      (after { code [0xDE, 0xFF] with
        cpu := { State.reset.cpu with a := 0x00, f := 0x10 } }) = (0xF0, 0x0102) := by
  decide +kernel
theorem test_step_and_b :
    (fun t : State => (t.cpu.a, t.cpu.f))
      (after { code [0xA0] with
        cpu := { State.reset.cpu with a := 0x5A, b := 0x3F, f := 0xD0 } }) = (0x1A, 0x20) := by
  decide +kernel
theorem test_step_and_hl :
    (fun t : State => (t.cpu.a, t.cpu.f))
      (after { code [0xA6] with
        cpu := { State.reset.cpu with a := 0x5A, h := 0xC0, l := 0x00, f := 0x00 } }) = (0x00, 0xA0) := by
  decide +kernel
theorem test_step_and_0x38 :
    (fun t : State => (t.cpu.a, t.cpu.f))
      (after { code [0xE6, 0x38] with
        cpu := { State.reset.cpu with a := 0x5A, f := 0x00 } }) = (0x18, 0x20) := by
  decide +kernel
theorem test_step_xor_a :
    (fun t : State => (t.cpu.a, t.cpu.f))
      (after { code [0xAF] with
        cpu := { State.reset.cpu with a := 0x5A, f := 0xF0 } }) = (0x00, 0x80) := by
  decide +kernel
theorem test_step_xor_hl :
    (fun t : State => (t.cpu.a, t.cpu.f))
      (after { code [0xAE] with
        cpu := { State.reset.cpu with a := 0xFF, h := 0xC0, l := 0x00, f := 0x00 }
        wram := [(0x0, 0x8A)] }) = (0x75, 0x00) := by
  decide +kernel
theorem test_step_xor_0x0f :
    (fun t : State => (t.cpu.a, t.cpu.f))
      (after { code [0xEE, 0x0F] with
        cpu := { State.reset.cpu with a := 0xFF, f := 0x00 } }) = (0xF0, 0x00) := by
  decide +kernel
theorem test_step_or_c :
    (fun t : State => (t.cpu.a, t.cpu.f))
      (after { code [0xB1] with
        cpu := { State.reset.cpu with a := 0x5A, c := 0x03, f := 0xF0 } }) = (0x5B, 0x00) := by
  decide +kernel
theorem test_step_or_hl :
    (fun t : State => (t.cpu.a, t.cpu.f))
      (after { code [0xB6] with
        cpu := { State.reset.cpu with a := 0x5A, h := 0xC0, l := 0x00, f := 0x00 }
        wram := [(0x0, 0x0F)] }) = (0x5F, 0x00) := by
  decide +kernel
theorem test_step_or_0x00 :
    (fun t : State => (t.cpu.f, t.cpu.pc))
      (after { code [0xF6, 0x00] with
        cpu := { State.reset.cpu with a := 0x00, f := 0x70 } }) = (0x80, 0x0102) := by
  decide +kernel
theorem test_step_cp_b :
    (fun t : State => (t.cpu.f, t.cpu.pc))
      (after { code [0xB8] with
        cpu := { State.reset.cpu with a := 0x3C, b := 0x2F, f := 0x00 } }) = (0x60, 0x0101) := by
  decide +kernel
theorem test_step_cp_hl :
    (fun t : State => (t.cpu.f, t.cpu.pc))
      (after { code [0xBE] with
        cpu := { State.reset.cpu with a := 0x3C, h := 0xC0, l := 0x00, f := 0x00 }
        wram := [(0x0, 0x40)] }) = (0x50, 0x0101) := by
  decide +kernel
theorem test_step_cp_0x3c :
    (fun t : State => (t.cpu.f, t.cpu.pc))
      (after { code [0xFE, 0x3C] with
        cpu := { State.reset.cpu with a := 0x3C, f := 0x00 } }) = (0xC0, 0x0102) := by
  decide +kernel
theorem test_step_inc_b :
    (fun t : State => (t.cpu.b, t.cpu.f))
      (after { code [0x04] with
        cpu := { State.reset.cpu with b := 0xFF, f := 0x00 } }) = (0x00, 0xA0) := by
  decide +kernel
theorem test_step_inc_a :
    (fun t : State => (t.cpu.a, t.cpu.f))
      (after { code [0x3C] with
        cpu := { State.reset.cpu with a := 0x0F, f := 0xD0 } }) = (0x10, 0x30) := by
  decide +kernel
theorem test_step_inc_hl :
    (fun t : State => (t.wram.read 0x0, t.cpu.f))
      (after { code [0x34] with
        cpu := { State.reset.cpu with h := 0xC0, l := 0x00, f := 0x10 }
        wram := [(0x0, 0x50)] }) = (0x51, 0x10) := by
  decide +kernel
theorem test_step_dec_b :
    (fun t : State => (t.cpu.b, t.cpu.f))
      (after { code [0x05] with
        cpu := { State.reset.cpu with b := 0x01, f := 0x10 } }) = (0x00, 0xD0) := by
  decide +kernel
theorem test_step_dec_c :
    (fun t : State => (t.cpu.c, t.cpu.f))
      (after { code [0x0D] with
        cpu := { State.reset.cpu with c := 0x00, f := 0x00 } }) = (0xFF, 0x60) := by
  decide +kernel
theorem test_step_dec_hl :
    (fun t : State => (t.wram.read 0x0, t.cpu.f))
      (after { code [0x35] with
        cpu := { State.reset.cpu with h := 0xC0, l := 0x00, f := 0x00 }
        wram := [(0x0, 0x10)] }) = (0x0F, 0x60) := by
  decide +kernel
theorem test_step_daa :
    (fun t : State => (t.cpu.a, t.cpu.f))
      (after { code [0x27] with
        cpu := { State.reset.cpu with a := 0x7D, f := 0x00 } }) = (0x83, 0x00) := by
  decide +kernel
theorem test_step_daa_2 :
    (fun t : State => (t.cpu.a, t.cpu.f))
      (after { code [0x27] with
        cpu := { State.reset.cpu with a := 0x9A, f := 0x00 } }) = (0x00, 0x90) := by
  decide +kernel
theorem test_step_cpl :
    (fun t : State => (t.cpu.a, t.cpu.f))
      (after { code [0x2F] with
        cpu := { State.reset.cpu with a := 0x35, f := 0x90 } }) = (0xCA, 0xF0) := by
  decide +kernel
theorem test_step_scf :
    (fun t : State => (t.cpu.f, t.cpu.pc))
      (after { code [0x37] with
        cpu := { State.reset.cpu with f := 0xE0 } }) = (0x90, 0x0101) := by
  decide +kernel
theorem test_step_ccf :
    (fun t : State => (t.cpu.f, t.cpu.pc))
      (after { code [0x3F] with
        cpu := { State.reset.cpu with f := 0xF0 } }) = (0x80, 0x0101) := by
  decide +kernel
theorem test_step_ccf_2 :
    (fun t : State => (t.cpu.f, t.cpu.pc))
      (after { code [0x3F] with
        cpu := { State.reset.cpu with f := 0x00 } }) = (0x10, 0x0101) := by
  decide +kernel
theorem test_step_add_hl_bc :
    (fun t : State => (t.cpu.h, t.cpu.l))
      (after { code [0x09] with
        cpu := { State.reset.cpu with h := 0x8A, l := 0x23, b := 0x06, c := 0x05, f := 0x80 } }) = (0x90, 0x28) := by
  decide +kernel
theorem test_step_add_hl_hl :
    (fun t : State => (t.cpu.h, t.cpu.l))
      (after { code [0x29] with
        cpu := { State.reset.cpu with h := 0x8A, l := 0x23, f := 0x00 } }) = (0x14, 0x46) := by
  decide +kernel
theorem test_step_add_hl_sp :
    (fun t : State => (t.cpu.l, t.cpu.f))
      (after { code [0x39] with
        cpu := { State.reset.cpu with h := 0x00, l := 0x01, sp := 0xFFFF, f := 0x40 } }) = (0x00, 0x30) := by
  decide +kernel
theorem test_step_add_hl_de :
    (fun t : State => (t.cpu.h, t.cpu.l))
      (after { code [0x19] with
        cpu := { State.reset.cpu with h := 0x0F, l := 0xFF, d := 0x00, e := 0x01, f := 0x10 } }) = (0x10, 0x00) := by
  decide +kernel
theorem test_step_inc_bc :
    (fun t : State => (t.cpu.b, t.cpu.c))
      (after { code [0x03] with
        cpu := { State.reset.cpu with b := 0xFF, c := 0xFF, f := 0x00 } }) = (0x00, 0x00) := by
  decide +kernel
theorem test_step_inc_sp :
    (fun t : State => (t.cpu.sp, t.cpu.f))
      (after { code [0x33] with
        cpu := { State.reset.cpu with sp := 0xFFFF, f := 0xF0 } }) = (0x0000, 0xF0) := by
  decide +kernel
theorem test_step_dec_de :
    (fun t : State => (t.cpu.d, t.cpu.e))
      (after { code [0x1B] with
        cpu := { State.reset.cpu with d := 0x00, e := 0x00, f := 0x00 } }) = (0xFF, 0xFF) := by
  decide +kernel
theorem test_step_dec_hl_2 :
    (fun t : State => (t.cpu.h, t.cpu.l))
      (after { code [0x2B] with
        cpu := { State.reset.cpu with h := 0x10, l := 0x00, f := 0xF0 } }) = (0x0F, 0xFF) := by
  decide +kernel
theorem test_step_add_sp_2 :
    (fun t : State => (t.cpu.sp, t.cpu.f))
      (after { code [0xE8, 0x02] with
        cpu := { State.reset.cpu with sp := 0xFFF8, f := 0xF0 } }) = (0xFFFA, 0x00) := by
  decide +kernel
theorem test_step_add_sp_dec2 :
    (fun t : State => (t.cpu.sp, t.cpu.f))
      (after { code [0xE8, 0xFE] with
        cpu := { State.reset.cpu with sp := 0x0000, f := 0x00 } }) = (0xFFFE, 0x00) := by
  decide +kernel
theorem test_step_rlca :
    (fun t : State => (t.cpu.a, t.cpu.f))
      (after { code [0x07] with
        cpu := { State.reset.cpu with a := 0x85, f := 0x00 } }) = (0x0B, 0x10) := by
  decide +kernel
theorem test_step_rlca_2 :
    (fun t : State => (t.cpu.f, t.cpu.pc))
      (after { code [0x07] with
        cpu := { State.reset.cpu with a := 0x00, f := 0xF0 } }) = (0x00, 0x0101) := by
  decide +kernel
theorem test_step_rrca :
    (fun t : State => (t.cpu.a, t.cpu.f))
      (after { code [0x0F] with
        cpu := { State.reset.cpu with a := 0x3B, f := 0x00 } }) = (0x9D, 0x10) := by
  decide +kernel
theorem test_step_rla :
    (fun t : State => (t.cpu.a, t.cpu.f))
      (after { code [0x17] with
        cpu := { State.reset.cpu with a := 0x95, f := 0x10 } }) = (0x2B, 0x10) := by
  decide +kernel
theorem test_step_rla_2 :
    (fun t : State => (t.cpu.a, t.cpu.f))
      (after { code [0x17] with
        cpu := { State.reset.cpu with a := 0x80, f := 0x00 } }) = (0x00, 0x10) := by
  decide +kernel
theorem test_step_rra :
    (fun t : State => (t.cpu.a, t.cpu.f))
      (after { code [0x1F] with
        cpu := { State.reset.cpu with a := 0x81, f := 0x00 } }) = (0x40, 0x10) := by
  decide +kernel
theorem test_step_rlc_b :
    (fun t : State => (t.cpu.b, t.cpu.f))
      (after { code [0xCB, 0x00] with
        cpu := { State.reset.cpu with b := 0x85, f := 0x00 } }) = (0x0B, 0x10) := by
  decide +kernel
theorem test_step_rlc_hl :
    (fun t : State => (t.cpu.f, t.cpu.pc))
      (after { code [0xCB, 0x06] with
        cpu := { State.reset.cpu with h := 0xC0, l := 0x00, f := 0x10 } }) = (0x80, 0x0102) := by
  decide +kernel
theorem test_step_rrc_c :
    (fun t : State => (t.cpu.c, t.cpu.f))
      (after { code [0xCB, 0x09] with
        cpu := { State.reset.cpu with c := 0x01, f := 0x00 } }) = (0x80, 0x10) := by
  decide +kernel
theorem test_step_rrc_hl :
    (fun t : State => (t.wram.read 0x0, t.cpu.f))
      (after { code [0xCB, 0x0E] with
        cpu := { State.reset.cpu with h := 0xC0, l := 0x00, f := 0x00 }
        wram := [(0x0, 0x02)] }) = (0x01, 0x00) := by
  decide +kernel
theorem test_step_rl_l :
    (fun t : State => (t.cpu.l, t.cpu.f))
      (after { code [0xCB, 0x15] with
        cpu := { State.reset.cpu with l := 0x80, f := 0x00 } }) = (0x00, 0x90) := by
  decide +kernel
theorem test_step_rl_hl :
    (fun t : State => (t.wram.read 0x0, t.cpu.f))
      (after { code [0xCB, 0x16] with
        cpu := { State.reset.cpu with h := 0xC0, l := 0x00, f := 0x10 }
        wram := [(0x0, 0x11)] }) = (0x23, 0x00) := by
  decide +kernel
theorem test_step_rr_a :
    (fun t : State => (t.cpu.a, t.cpu.f))
      (after { code [0xCB, 0x1F] with
        cpu := { State.reset.cpu with a := 0x01, f := 0x00 } }) = (0x00, 0x90) := by
  decide +kernel
theorem test_step_rr_hl :
    (fun t : State => (t.wram.read 0x0, t.cpu.f))
      (after { code [0xCB, 0x1E] with
        cpu := { State.reset.cpu with h := 0xC0, l := 0x00, f := 0x10 }
        wram := [(0x0, 0x8A)] }) = (0xC5, 0x00) := by
  decide +kernel
theorem test_step_sla_d :
    (fun t : State => (t.cpu.d, t.cpu.f))
      (after { code [0xCB, 0x22] with
        cpu := { State.reset.cpu with d := 0x80, f := 0x00 } }) = (0x00, 0x90) := by
  decide +kernel
theorem test_step_sla_hl :
    (fun t : State => (t.wram.read 0x0, t.cpu.f))
      (after { code [0xCB, 0x26] with
        cpu := { State.reset.cpu with h := 0xC0, l := 0x00, f := 0x00 }
        wram := [(0x0, 0xFF)] }) = (0xFE, 0x10) := by
  decide +kernel
theorem test_step_sra_a :
    (fun t : State => (t.cpu.a, t.cpu.f))
      (after { code [0xCB, 0x2F] with
        cpu := { State.reset.cpu with a := 0x8A, f := 0x10 } }) = (0xC5, 0x00) := by
  decide +kernel
theorem test_step_sra_b :
    (fun t : State => (t.cpu.b, t.cpu.f))
      (after { code [0xCB, 0x28] with
        cpu := { State.reset.cpu with b := 0x01, f := 0x00 } }) = (0x00, 0x90) := by
  decide +kernel
theorem test_step_sra_hl :
    (fun t : State => (t.wram.read 0x0, t.cpu.f))
      (after { code [0xCB, 0x2E] with
        cpu := { State.reset.cpu with h := 0xC0, l := 0x00, f := 0x00 }
        wram := [(0x0, 0x81)] }) = (0xC0, 0x10) := by
  decide +kernel
theorem test_step_swap_a :
    (fun t : State => (t.cpu.a, t.cpu.f))
      (after { code [0xCB, 0x37] with
        cpu := { State.reset.cpu with a := 0xF1, f := 0xF0 } }) = (0x1F, 0x00) := by
  decide +kernel
theorem test_step_swap_e :
    (fun t : State => (t.cpu.f, t.cpu.pc))
      (after { code [0xCB, 0x33] with
        cpu := { State.reset.cpu with e := 0x00, f := 0x10 } }) = (0x80, 0x0102) := by
  decide +kernel
theorem test_step_swap_hl :
    (fun t : State => (t.wram.read 0x0, t.cpu.f))
      (after { code [0xCB, 0x36] with
        cpu := { State.reset.cpu with h := 0xC0, l := 0x00, f := 0x00 }
        wram := [(0x0, 0x5A)] }) = (0xA5, 0x00) := by
  decide +kernel
theorem test_step_srl_a :
    (fun t : State => (t.cpu.a, t.cpu.f))
      (after { code [0xCB, 0x3F] with
        cpu := { State.reset.cpu with a := 0x01, f := 0x00 } }) = (0x00, 0x90) := by
  decide +kernel
theorem test_step_srl_hl :
    (fun t : State => (t.wram.read 0x0, t.cpu.f))
      (after { code [0xCB, 0x3E] with
        cpu := { State.reset.cpu with h := 0xC0, l := 0x00, f := 0x00 }
        wram := [(0x0, 0xFF)] }) = (0x7F, 0x10) := by
  decide +kernel
theorem test_step_bit_7_a :
    (fun t : State => (t.cpu.f, t.cpu.pc))
      (after { code [0xCB, 0x7F] with
        cpu := { State.reset.cpu with a := 0x80, f := 0x50 } }) = (0x30, 0x0102) := by
  decide +kernel
theorem test_step_bit_4_l :
    (fun t : State => (t.cpu.f, t.cpu.pc))
      (after { code [0xCB, 0x65] with
        cpu := { State.reset.cpu with l := 0xEF, f := 0x00 } }) = (0xA0, 0x0102) := by
  decide +kernel
theorem test_step_bit_0_hl :
    (fun t : State => (t.cpu.f, t.cpu.pc))
      (after { code [0xCB, 0x46] with
        cpu := { State.reset.cpu with h := 0xC0, l := 0x00, f := 0x10 }
        wram := [(0x0, 0xFE)] }) = (0xB0, 0x0102) := by
  decide +kernel
theorem test_step_res_0_a :
    (fun t : State => (t.cpu.a, t.cpu.f))
      (after { code [0xCB, 0x87] with
        cpu := { State.reset.cpu with a := 0xFF, f := 0xF0 } }) = (0xFE, 0xF0) := by
  decide +kernel
theorem test_step_res_3_hl :
    (fun t : State => (t.wram.read 0x0, t.cpu.f))
      (after { code [0xCB, 0x9E] with
        cpu := { State.reset.cpu with h := 0xC0, l := 0x00, f := 0x00 }
        wram := [(0x0, 0xFF)] }) = (0xF7, 0x00) := by
  decide +kernel
theorem test_step_set_7_b :
    (fun t : State => (t.cpu.b, t.cpu.f))
      (after { code [0xCB, 0xF8] with
        cpu := { State.reset.cpu with b := 0x00, f := 0xF0 } }) = (0x80, 0xF0) := by
  decide +kernel
theorem test_step_set_2_hl :
    (fun t : State => (t.wram.read 0x0, t.cpu.f))
      (after { code [0xCB, 0xD6] with
        cpu := { State.reset.cpu with h := 0xC0, l := 0x00, f := 0x00 } }) = (0x04, 0x00) := by
  decide +kernel
theorem test_step_set_0_hl :
    (fun t : State => (t.cpu.f, t.cpu.pc))
      (after { code [0xCB, 0xC6] with
        cpu := { State.reset.cpu with h := 0x80, l := 0x00, f := 0x00 }
        ppu := { State.reset.ppu with mode := .transfer, dot := 100, vram := [(0x0, 0x10)] } }) = (0x00, 0x0102) := by
  decide +kernel
theorem test_step_jp_0x0200 :
    (fun t : State => (t.cpu.pc, t.cycles))
      (after (code [0xC3, 0x00, 0x02])) = (0x0200, 16) := by
  decide +kernel
theorem test_step_jp_nz_0x0200 :
    (fun t : State => (t.cpu.f, t.cpu.pc))
      (after { code [0xC2, 0x00, 0x02] with
        cpu := { State.reset.cpu with f := 0x80 } }) = (0x80, 0x0103) := by
  decide +kernel
theorem test_step_jp_nz_0x0200_2 :
    (fun t : State => (t.cpu.f, t.cpu.pc))
      (after { code [0xC2, 0x00, 0x02] with
        cpu := { State.reset.cpu with f := 0x00 } }) = (0x00, 0x0200) := by
  decide +kernel
theorem test_step_jp_c_0x0200 :
    (fun t : State => (t.cpu.f, t.cpu.pc))
      (after { code [0xDA, 0x00, 0x02] with
        cpu := { State.reset.cpu with f := 0x10 } }) = (0x10, 0x0200) := by
  decide +kernel
theorem test_step_jp_hl :
    (fun t : State => (t.cpu.pc, t.cycles))
      (after { code [0xE9] with
        cpu := { State.reset.cpu with h := 0xC0, l := 0x00 } }) = (0xC000, 4) := by
  decide +kernel
theorem test_step_jr_inc5 :
    (fun t : State => (t.cpu.pc, t.cycles))
      (after (code [0x18, 0x05])) = (0x0107, 12) := by
  decide +kernel
theorem test_step_jr_dec2 :
    (fun t : State => (t.cpu.pc, t.cycles))
      (after (code [0x18, 0xFE])) = (0x0100, 12) := by
  decide +kernel
theorem test_step_jr_nz_inc5 :
    (fun t : State => (t.cpu.f, t.cpu.pc))
      (after { code [0x20, 0x05] with
        cpu := { State.reset.cpu with f := 0x00 } }) = (0x00, 0x0107) := by
  decide +kernel
theorem test_step_jr_nz_inc5_2 :
    (fun t : State => (t.cpu.f, t.cpu.pc))
      (after { code [0x20, 0x05] with
        cpu := { State.reset.cpu with f := 0x80 } }) = (0x80, 0x0102) := by
  decide +kernel
theorem test_step_jr_c_dec5 :
    (fun t : State => (t.cpu.f, t.cpu.pc))
      (after { code [0x38, 0xFB] with
        cpu := { State.reset.cpu with f := 0x10 } }) = (0x10, 0x00FD) := by
  decide +kernel
theorem test_step_jr_nc_dec5 :
    (fun t : State => (t.cpu.f, t.cpu.pc))
      (after { code [0x30, 0xFB] with
        cpu := { State.reset.cpu with f := 0x10 } }) = (0x10, 0x0102) := by
  decide +kernel
theorem test_step_call_0x1234 :
    (fun t : State => (t.hram.read 0x7C, t.hram.read 0x7D))
      (after { code [0xCD, 0x34, 0x12] with
        cpu := { State.reset.cpu with sp := 0xFFFE } }) = (0x03, 0x01) := by
  decide +kernel
theorem test_step_call_z_0x1234 :
    (fun t : State => (t.cpu.f, t.cpu.pc))
      (after { code [0xCC, 0x34, 0x12] with
        cpu := { State.reset.cpu with f := 0x00, sp := 0xFFFE } }) = (0x00, 0x0103) := by
  decide +kernel
theorem test_step_call_z_0x1234_2 :
    (fun t : State => (t.wram.read 0xFFE, t.wram.read 0xFFF))
      (after { code [0xCC, 0x34, 0x12] with
        cpu := { State.reset.cpu with f := 0x80, sp := 0xD000 } }) = (0x03, 0x01) := by
  decide +kernel
theorem test_step_ret :
    (fun t : State => (t.cpu.sp, t.cpu.pc))
      (after { code [0xC9] with
        cpu := { State.reset.cpu with sp := 0xC000 }
        wram := [(0x0, 0x50), (0x1, 0x01)] }) = (0xC002, 0x0150) := by
  decide +kernel
theorem test_step_ret_nc :
    (fun t : State => (t.cpu.sp, t.cpu.f))
      (after { code [0xD0] with
        cpu := { State.reset.cpu with f := 0x00, sp := 0xC000 }
        wram := [(0x0, 0x50), (0x1, 0x01)] }) = (0xC002, 0x00) := by
  decide +kernel
theorem test_step_ret_nc_2 :
    (fun t : State => (t.cpu.f, t.cpu.pc))
      (after { code [0xD0] with
        cpu := { State.reset.cpu with f := 0x10, sp := 0xC000 }
        wram := [(0x0, 0x50), (0x1, 0x01)] }) = (0x10, 0x0101) := by
  decide +kernel
theorem test_step_reti :
    (fun t : State => (t.cpu.sp, t.cpu.ime))
      (after { code [0xD9] with
        cpu := { State.reset.cpu with sp := 0xC000, ime := false }
        wram := [(0x0, 0x50), (0x1, 0x01)] }) = (0xC002, true) := by
  decide +kernel
theorem test_step_rst_28h :
    (fun t : State => (t.hram.read 0x7C, t.hram.read 0x7D))
      (after { code [0xEF] with
        cpu := { State.reset.cpu with sp := 0xFFFE } }) = (0x01, 0x01) := by
  decide +kernel
theorem test_step_rst_38h :
    (fun t : State => (t.wram.read 0xFFE, t.wram.read 0xFFF))
      (after { code [] with
        cpu := { State.reset.cpu with pc := 0xC000, sp := 0xD000 }
        wram := [(0x0, 0xFF)] }) = (0x01, 0xC0) := by
  decide +kernel
theorem test_step_nop :
    (fun t : State => (t.cpu.pc, t.cycles))
      (after (code [0x00])) = (0x0101, 4) := by
  decide +kernel
theorem test_step_halt :
    (fun t : State => (t.cpu.halted, t.cpu.pc))
      (after (code [0x76])) = (true, 0x0101) := by
  decide +kernel
theorem test_step_di :
    (fun t : State => (t.cpu.ime, t.cpu.pc))
      (after { code [0xF3] with
        cpu := { State.reset.cpu with ime := true } }) = (false, 0x0101) := by
  decide +kernel
theorem test_step_ei :
    (fun t : State => (t.cpu.imePending, t.cpu.pc))
      (after { code [0xFB] with
        cpu := { State.reset.cpu with ime := false } }) = (true, 0x0101) := by
  decide +kernel

/-! ### Where the outcomes and the interrupts come from: rows of 95_test_vectors.md, parts 3.7 and 4.1 -/

theorem test_stop_raises : (code [0x10, 0x00]).cpuStep = .fault (.stop 0x0100) := rfl
theorem test_illegal_raises : (code [0xDD]).cpuStep = .fault (.decodeError 0xDD 0x0100) := rfl
theorem test_illegal_nop_policy :
    (fun t : State => (t.cpu.pc, t.cycles)) (after { code [0xDD] with policy := .nop }) = (0x0101, 4) := by
  decide +kernel
theorem test_service_vector_and_request :
    (fun t : State => (t.cpu.pc, t.irq.if5))
      (after { code [] with
        cpu := { State.reset.cpu with ime := true }
        irq := { if5 := 0b11111, ie5 := 0b10100 } }) = (0x0050, 0b11011) := by
  decide +kernel
theorem test_service_push_on_if :
    (fun t : State => (t.cpu.pc, t.irq.if5))
      (after { code [] with
        cpu := { State.reset.cpu with pc := 0x0234, sp := 0xFF11, ime := true }
        irq := { if5 := 0b00001, ie5 := 0b00001 } }) = (0x0040, 0b10100) := by
  decide +kernel
theorem test_service_push_on_ie :
    (fun t : State => (t.cpu.pc, t.irq.if5, t.irq.ie5))
      (after { code [] with
        cpu := { State.reset.cpu with pc := 0x02FF, sp := 0x0001, ime := true }
        irq := { if5 := 0b00100, ie5 := 0b00100 } }) = (0x0050, 0b00000, 0b11111) := by
  decide +kernel

/-! ### Devices: rows of 95_test_vectors.md, parts 4.2, 4.8, 4.9 and 4.10 -/

theorem test_timer_reload_and_request :
    (fun t : State => (t.timer.tima, t.timer.reloadPending, t.irq.if5, t.timer.timerAcc))
      (State.timerAdvance
        (((({ State.reset with irq := { if5 := 0, ie5 := 0 } } : State).busWrite 0xFF06 0xAB).busWrite 0xFF07
          0x05).busWrite 0xFF05 0xFF) 20) = (0xAB, false, 0b00100, 4) := by
  decide +kernel
theorem test_joypad_both_selected :
    (({ State.reset with joypad := { buttons := 0x81, p1Select := 0b11 } } : State).busWrite 0xFF00 0x00).busRead
      0xFF00 = 0xC6 := by
  decide +kernel
theorem test_serial_control : (State.reset.busWrite 0xFF02 0x00).busRead 0xFF02 = 0x7E := by
  decide +kernel
theorem test_stat_at_reset : State.reset.busRead 0xFF41 = 0x86 := by decide +kernel
theorem test_dma_from_echo :
    (({ State.reset with wram := [(0x1E00, 0x77)] } : State).busWrite 0xFF46 0xFE).ppu.oam.read 0 = 0x77 := by
  decide +kernel

/-! ### Pixels: the example of rule R427 -/

/-- The PPU of rule R427: its tile in VRAM at 0x8010, and the top left map entry. -/
def tilePpu : Ppu :=
  { State.reset.ppu with
    bgp := 0xE4
    vram := Memory.ofBytesAt 0x10
      [0x3C, 0x7E, 0x42, 0x42, 0x42, 0x42, 0x42, 0x42, 0x7E, 0x5E, 0x7E, 0x0A, 0x7C, 0x56, 0x38, 0x7C] ++
      [(0x1800, 0x01)] }

theorem test_background_row :
    (List.range 8).map (fun x => (tilePpu.pixel 0 x).toNat) = [0, 2, 3, 3, 3, 3, 2, 0] := by
  decide +kernel
theorem test_sprite_flipped_over_background :
    (List.range 8).map (fun x =>
      (({ tilePpu with
          lcdc := 0x93, obp0 := 0xE4, oam := [(0, 18), (1, 8), (2, 1), (3, 0x40)] } : Ppu).pixel 3 x).toNat) =
      [0, 3, 1, 3, 1, 3, 2, 0] := by
  decide +kernel
theorem test_window_from_column_4 :
    (List.range 16).map (fun x =>
      (({ tilePpu with lcdc := 0xF1, wx := 11, vram := tilePpu.vram ++ [(0x1C00, 0x01)] } : Ppu).pixel 0 x).toNat) =
      [0, 2, 3, 3, 0, 2, 3, 3, 3, 3, 2, 0, 0, 0, 0, 0] := by
  decide +kernel

/-! ### The host's two questions, on a few words -/

theorem test_fetch_word_runs :
    (match step (State.reset.withFetchWord 16 0xCB37) with
      | .next t => t.cpu.a == 0x10
      | _ => false) = true := by
  decide +kernel
theorem test_fetch_word_three_bytes :
    (match step (State.reset.withFetchWord 8 0xC3) with
      | .next t => t.cpu.pc == 0x0000
      | _ => false) = true := by
  decide +kernel

/-! ### Witnesses: states that meet the hypotheses of the statements, each clause at its boundaries -/

/-- The PPU at reset is in order. -/
theorem ppu_reset_inv : State.reset.ppu.Inv :=
  ⟨by decide, by decide, by decide, by decide, by decide, by decide, by decide, by decide, blank_shaped, blank_shaped⟩

/-- The PPU at the last dot of a scanline, in the mode of that place. -/
def ppuAt (ly dot : Nat) : Ppu := { State.reset.ppu with ly := ly, dot := dot, mode := modeAt ly dot }

theorem ppuAt_inv {ly dot : Nat} (hl : ly < 154) (hd : dot < 456) : (ppuAt ly dot).Inv :=
  ⟨hl, hd, fun _ => rfl, fun h => ((show State.reset.ppu.lcdOn ≠ false by decide) h).elim, Nat.zero_le _, ppu_reset_inv.offRange, ppu_reset_inv.vramOk,
    ppu_reset_inv.oamOk, blank_shaped, blank_shaped⟩

/-- A cartridge with a controller, two banks and 8 KiB of RAM, enabled. -/
def ramCart : Cart :=
  { State.reset.cart with cartType := .mbc1, hasRam := true, ramLen := 0x2000, ramEnable := true }

theorem ramCart_inv : ramCart.Inv :=
  ⟨by decide, by decide, by decide, by decide, by decide, by decide, by decide⟩

theorem witness_LoadsAndStoresThatMoveHl :
    (∃ s : State, (0xFFFF : Word) = joinBytes s.cpu.h s.cpu.l) ∧ ∃ s : State, (0 : Word) = joinBytes s.cpu.h s.cpu.l :=
  ⟨⟨{ State.reset with cpu := { State.reset.cpu with h := 0xFF, l := 0xFF } }, by decide⟩,
    ⟨{ State.reset with cpu := { State.reset.cpu with h := 0, l := 0 } }, by decide⟩⟩

theorem witness_PushAndPopResultAndFrame :
    ∃ (s : State) (lo hi : Byte), lo = s.busRead s.cpu.sp ∧ hi = s.busRead (s.cpu.sp + 1) ∧ lo = 0x50 ∧ hi = 0x01 :=
  ⟨{ State.reset with cpu := { State.reset.cpu with sp := 0xC000 }, wram := [(0, 0x50), (1, 0x01)] }, 0x50, 0x01,
    by decide⟩

theorem witness_PushThenPopIsIdentity :
    (State.reset.cart.Inv ∧ State.reset.plainRam (State.reset.cpu.sp - 1) ∧
      State.reset.plainRam (State.reset.cpu.sp - 2)) ∧
    ∃ s : State, s.cart.Inv ∧ s.plainRam (s.cpu.sp - 1) ∧ s.plainRam (s.cpu.sp - 2) ∧ s.cpu.sp = 0xA001 :=
  ⟨⟨⟨by decide, by decide, by decide, by decide, by decide, by decide, by decide⟩, trivial, trivial⟩,
    ⟨{ State.reset with
        cart := ramCart
        ppu := { State.reset.ppu with mode := .hblank }
        cpu := { State.reset.cpu with sp := 0xA001 } },
      ramCart_inv, trivial, rfl, rfl⟩⟩

theorem witness_additions_subtractions_logic :
    (∃ (s : State) (cy : Bool) (k : AluOp), cy = s.cpu.f.getLsbD 4 ∧ cy = true ∧ (k = .add ∨ k = .adc)) ∧
    (∃ (s : State) (cy : Bool) (k : AluOp), cy = s.cpu.f.getLsbD 4 ∧ cy = true ∧ (k = .sub ∨ k = .sbc)) ∧
    ∃ k : AluOp, k = .and ∨ k = .xor ∨ k = .or :=
  ⟨⟨State.reset, true, .adc, by decide⟩, ⟨State.reset, true, .sbc, by decide⟩, .xor, by decide⟩

theorem witness_IncrementsAndDecrementsKeepCarry :
    ∃ (s : State) (hl : Word) (v : Byte), hl = joinBytes s.cpu.h s.cpu.l ∧ v = s.busRead hl ∧ v = 0xFF :=
  ⟨{ State.reset with cpu := { State.reset.cpu with h := 0xC0, l := 0 }, wram := [(0, 0xFF)] }, 0xC000, 0xFF, by decide⟩

theorem witness_DecimalAdjustResultAndFlags :
    ∃ (s : State) (a lowAdj highAdj : Nat) (n h c : Bool),
      a = s.cpu.a.toNat ∧ n = s.cpu.f.getLsbD 6 ∧ h = s.cpu.f.getLsbD 5 ∧ c = s.cpu.f.getLsbD 4 ∧
      lowAdj = (if h = true ∨ (n = false ∧ 9 < a % 16) then 0x06 else 0) ∧
      highAdj = (if c = true ∨ (n = false ∧ 0x99 < a) then 0x60 else 0) ∧ a = 0x9A :=
  ⟨{ State.reset with cpu := { State.reset.cpu with a := 0x9A, f := 0 } }, 0x9A, 0x06, 0x60, false, false, false,
    by decide⟩

theorem witness_DecimalAdjustGivesDecimalArithmetic :
    ∃ (s : State) (x y cin : Nat), x < 100 ∧ y < 100 ∧ s.cpu.a = packedBcd x ∧ cin = (s.cpu.f.getLsbD 4).toNat ∧
      x = 99 ∧ y = 99 ∧ cin = 1 :=
  ⟨{ State.reset with cpu := { State.reset.cpu with a := 0x99 } }, 99, 99, 1, by decide⟩

theorem witness_PairArithmeticResultAndFlags :
    ∃ (s : State) (hl x : Nat), hl = (joinBytes s.cpu.h s.cpu.l).toNat ∧ x = (s.pair .sp).toNat ∧ x = 0xFFFF :=
  ⟨{ State.reset with cpu := { State.reset.cpu with sp := 0xFFFF } }, 0x014D, 0xFFFF, by decide⟩

theorem witness_rotates :
    (∃ (s : State) (cy : Nat) (i : Instr) (k : RotOp) (op : Byte), cy = (s.cpu.f.getLsbD 4).toNat ∧ cy = 1 ∧
      (i, k, op) ∈
        [(Instr.rlca, RotOp.rlc, (0x07 : Byte)), (.rrca, .rrc, 0x0F), (.rla, .rl, 0x17), (.rra, .rr, 0x1F)]) ∧
    ∃ (s : State) (cy : Nat) (hl : Word) (v res : Byte), cy = (s.cpu.f.getLsbD 4).toNat ∧
      hl = joinBytes s.cpu.h s.cpu.l ∧ v = s.busRead hl ∧ res.toNat = (rotOnNumbers .rl v.toNat cy).1 ∧ res = 0x23 :=
  ⟨⟨State.reset, 1, .rla, .rl, 0x17, by decide, by decide, by simp⟩,
    ⟨{ State.reset with cpu := { State.reset.cpu with h := 0xC0, l := 0 }, wram := [(0, 0x11)] }, 1, 0xC000, 0x11, 0x23,
      by decide⟩⟩

theorem witness_BitWritesChangeOneBit :
    ∃ (s : State) (hl : Word) (v res : Byte), hl = joinBytes s.cpu.h s.cpu.l ∧ v = s.busRead hl ∧
      ∀ i : Nat, i < 8 → res.getLsbD i = if i = 7 then true else v.getLsbD i :=
  ⟨{ State.reset with cpu := { State.reset.cpu with h := 0xC0, l := 0 } }, 0xC000, 0, 0x80, by decide⟩

theorem witness_conditions :
    (∃ s : State, condHolds .nz s.cpu.f = true ∧ condHolds .nc s.cpu.f = true) ∧
    (∃ s : State, condHolds .z s.cpu.f = true ∧ condHolds .c s.cpu.f = true) ∧
    (∃ s : State, condHolds .nz s.cpu.f = false ∧ condHolds .nc s.cpu.f = false) ∧
    ∃ s : State, condHolds .z s.cpu.f = false ∧ condHolds .c s.cpu.f = false :=
  ⟨⟨{ State.reset with cpu := { State.reset.cpu with f := 0 } }, by decide⟩,
    ⟨{ State.reset with cpu := { State.reset.cpu with f := 0x90 } }, by decide⟩,
    ⟨{ State.reset with cpu := { State.reset.cpu with f := 0x90 } }, by decide⟩,
    ⟨{ State.reset with cpu := { State.reset.cpu with f := 0 } }, by decide⟩⟩

theorem witness_JumpsCallsReturnsAndRestarts :
    ∃ (s : State) (taken : Bool) (call one target : Word), taken = condHolds .z s.cpu.f ∧ call = s.cpu.pc + 3 ∧
      one = s.cpu.pc + 1 ∧ target = joinBytes (s.busRead (s.cpu.sp + 1)) (s.busRead s.cpu.sp) ∧ call = 0x0001 :=
  ⟨{ State.reset with
      cpu := { State.reset.cpu with pc := 0xFFFE, sp := 0xC000 }
      wram := [(0, 0x50), (1, 0x01)] }, true, 0x0001, 0xFFFF, 0x0150, by decide⟩

theorem witness_StopAndIllegalOpcodes :
    State.reset.cpu.dead = none ∧ State.reset.policy = .fatal ∧
      ({ State.reset with policy := .nop } : State).policy = .nop := by
  decide

theorem witness_InterruptControllerAndPriorityEncoder :
    ∃ q : Irq, q.isPending = true ∧ q.highestPriorityPending = some .joypad ∧ (4 : Nat) < 5 :=
  ⟨{ if5 := 0b10000, ie5 := 0b10000 }, by decide⟩

/-- A state that services the joypad interrupt, with a stack in work RAM. -/
def serviceState : State :=
  { State.reset with
    cpu := { State.reset.cpu with ime := true, sp := 0xD000 }
    irq := { if5 := 0b10001, ie5 := 0b10000 } }

theorem witness_InterruptServiceSavesPcAndJumps :
    serviceState.cpu.dead = none ∧ serviceState.cpu.ime = true ∧ serviceState.irq.ie5.getLsbD IrqSource.joypad.bit = true ∧
    serviceState.irq.if5.getLsbD IrqSource.joypad.bit = true ∧
    (∀ j : Nat, j < IrqSource.joypad.bit →
      ¬(serviceState.irq.ie5.getLsbD j = true ∧ serviceState.irq.if5.getLsbD j = true)) ∧
    serviceState.plainRam (serviceState.cpu.sp - 1) ∧ serviceState.plainRam (serviceState.cpu.sp - 2) ∧
    serviceState.place (serviceState.cpu.sp - 1) ≠ serviceState.place (serviceState.cpu.sp - 2) :=
  ⟨by decide, by decide, by decide, by decide, by decide, trivial, trivial, by decide⟩

theorem witness_HaltedIdlesUntilPending :
    (∃ s : State, s.cpu.Inv ∧ s.cpu.dead = none ∧ s.cpu.halted = true ∧
      ∀ j : Nat, j < 5 → ¬(s.irq.ie5.getLsbD j = true ∧ s.irq.if5.getLsbD j = true)) ∧
    (∃ s : State, s.cpu.Inv ∧ s.cpu.dead = none ∧ s.cpu.halted = true ∧ s.cpu.ime = false ∧
      ∃ j : Nat, j < 5 ∧ s.irq.ie5.getLsbD j = true ∧ s.irq.if5.getLsbD j = true) ∧
    ∃ (s : State) (k : IrqSource), s.cpu.Inv ∧ s.cpu.dead = none ∧ s.cpu.halted = true ∧
      s.irq.highestPriorityPending = some k ∧ s.cpu.ime = true :=
  ⟨⟨{ State.reset with cpu := { State.reset.cpu with halted := true } }, ⟨by decide, by decide⟩, by decide⟩,
    ⟨{ State.reset with
        cpu := { State.reset.cpu with halted := true }
        irq := { if5 := 0b10000, ie5 := 0b10000 } }, ⟨by decide, by decide⟩, by decide⟩,
    ⟨{ State.reset with
        cpu := { State.reset.cpu with halted := true, ime := true }
        irq := { if5 := 0b10000, ie5 := 0b10000 } }, .joypad, ⟨by decide, by decide⟩, by decide⟩⟩

/-- A state one step after EI, with this opcode next. -/
def afterEi (op : Byte) : State := { code [op] with cpu := { State.reset.cpu with imePending := true } }

theorem witness_EiTakesEffectAfterTheNextInstruction :
    ((afterEi 0xF3).cpu.dead = none ∧ (afterEi 0xF3).cpu.halted = false ∧ (afterEi 0xF3).cpu.ime = false ∧
      (afterEi 0xF3).cpu.imePending = true ∧ (afterEi 0xF3).fetched = .di) ∧ (afterEi 0x00).fetched = .nop := by
  decide

theorem witness_OutcomesEndTheRun :
    (∃ (s : State) (f : Fault), s.cpu.dead = some f) ∧
    (∃ s : State, step s = .fault (.stop 0x0100)) ∧ ∃ s : State, step s = .fault (.decodeError 0xFD 0x0100) :=
  ⟨⟨{ State.reset with cpu := { State.reset.cpu with dead := some (.stop 0x0100) } }, .stop 0x0100, rfl⟩,
    ⟨code [0x10, 0x00], rfl⟩, ⟨code [0xFD], rfl⟩⟩

theorem witness_StepRunsTheDecodedInstruction :
    (∃ s : State, s.cpu.dead = none ∧ s.cpu.ime = false ∧ s.cpu.halted = true ∧ s.irq.isPending = true ∧
      decode [s.busRead s.cpu.pc, s.busRead (s.cpu.pc + 1), s.busRead (s.cpu.pc + 2)] =
        .ok (.jpImm 0x0150, [])) ∧
    ∃ s : State, s.cpu.dead = none ∧ s.cpu.ime = true ∧ s.irq.isPending = false ∧ s.cpu.halted = false ∧
      decode [s.busRead s.cpu.pc, s.busRead (s.cpu.pc + 1), s.busRead (s.cpu.pc + 2)] = .ok (.incA, [0, 0]) :=
  ⟨⟨{ code [0xC3, 0x50, 0x01] with
      cpu := { State.reset.cpu with halted := true }
      irq := { if5 := 1, ie5 := 1 } }, by decide +kernel⟩,
    ⟨{ code [0x3C] with cpu := { State.reset.cpu with ime := true } }, by decide +kernel⟩⟩

theorem witness_MachineStepFeedsTheDevices :
    (∃ s t : State, s.cpuStep = .next t) ∧ ∃ (s : State) (f : Fault), s.cpuStep = .fault f :=
  ⟨⟨code [0x00], after (code [0x00]), rfl⟩, ⟨code [0x10, 0x00], .stop 0x0100, rfl⟩⟩

theorem witness_HaltedWithNothingEnabledIsStable :
    ∃ s : State, s.cpu.dead = none ∧ s.cpu.halted = true ∧ s.irq.ie5 = 0 :=
  ⟨{ State.reset with cpu := { State.reset.cpu with halted := true } }, by decide⟩

theorem witness_TimerOverflowReloadsFourTicksLater :
    ∃ t : Timer, t.tac.getLsbD 2 = true ∧ t.reloadPending = false ∧ t.tima = 0xFF ∧
      t.timerAcc.toNat + 1 = timerPeriod t.tac :=
  ⟨{ State.reset.timer with tac := 0b101, tima := 0xFF, timerAcc := 15 }, by decide⟩

/-- The first and the last tick of a window, the timer stopped and the timer on. -/
theorem witness_reload_window :
    (∃ t : Timer, t.Inv ∧ t.reloadPending = true ∧ t.reloadDelay = 4 ∧ t.tac.getLsbD 2 = false) ∧
    (∃ t : Timer, t.Inv ∧ t.reloadPending = true ∧ t.reloadDelay = 1 ∧ t.tac.getLsbD 2 = false) ∧
    (∃ t : Timer, t.Inv ∧ t.reloadPending = true ∧ t.reloadDelay = 4 ∧ t.tac.getLsbD 2 = true) ∧
    ∃ t : Timer, t.Inv ∧ t.reloadPending = true ∧ t.reloadDelay = 1 ∧ t.tac.getLsbD 2 = true :=
  ⟨⟨{ State.reset.timer with reloadPending := true, reloadDelay := 4 }, ⟨by decide, by decide⟩, by decide⟩,
    ⟨{ State.reset.timer with reloadPending := true, reloadDelay := 1, timerAcc := 3 }, ⟨by decide, by decide⟩, by decide⟩,
    ⟨{ State.reset.timer with tac := 0b101, reloadPending := true, reloadDelay := 4 }, ⟨by decide, by decide⟩, by decide⟩,
    ⟨{ State.reset.timer with tac := 0b101, reloadPending := true, reloadDelay := 1, timerAcc := 3 },
      ⟨by decide, by decide⟩, by decide⟩⟩

theorem witness_TimerCountsPeriodsAndDividerCountsTicks :
    (∃ (t : Timer) (n acc : Nat), acc = t.timerAcc.toNat ∧ t.tac.getLsbD 2 = true ∧ t.reloadPending = false ∧
      acc < timerPeriod t.tac ∧ t.tima.toNat + (acc + n) / timerPeriod t.tac ≤ 255 ∧ 0 < n) ∧
    ∃ t : Timer, t.tac.getLsbD 2 = false ∧ t.reloadPending = false :=
  ⟨⟨{ State.reset.timer with tac := 0b101, tima := 0xFE, timerAcc := 15 }, 16, 15, by decide⟩,
    ⟨State.reset.timer, by decide⟩⟩

theorem witness_ppu_on :
    (∃ p : Ppu, p.Inv ∧ p.lcdOn = true ∧ p.ly = 0 ∧ p.dot = 79) ∧
    (∃ p : Ppu, p.Inv ∧ p.lcdOn = true ∧ p.ly = 143 ∧ p.dot = 455) ∧
    ∃ p : Ppu, p.Inv ∧ p.lcdOn = true ∧ p.ly = 153 ∧ p.dot = 455 :=
  ⟨⟨ppuAt 0 79, ppuAt_inv (by decide) (by decide), by decide⟩,
    ⟨ppuAt 143 455, ppuAt_inv (by decide) (by decide), by decide⟩,
    ⟨ppuAt 153 455, ppuAt_inv (by decide) (by decide), by decide⟩⟩

/-- The last scanline about to be rendered, the window shown on every one before it. -/
theorem witness_ScanlinesAreRenderedOnceAndPublished :
    ∃ p : Ppu, p.Inv ∧ p.lcdOn = true ∧ p.ly = 143 ∧ p.dot = 79 ∧ p.wly = 143 ∧ p.lcdc.getLsbD 5 = true ∧
      p.lcdc.getLsbD 0 = true ∧ p.wy.toNat ≤ p.ly ∧ p.wx.toNat ≤ 166 :=
  ⟨{ ppuAt 143 79 with wly := 143, lcdc := 0xB1 },
    ⟨by decide, by decide, fun _ => rfl, fun h => ((by decide : (0xB1 : Byte).getLsbD 7 ≠ false) h).elim, by decide,
      by decide, by decide, by decide, blank_shaped, blank_shaped⟩, by decide⟩

theorem witness_LcdOffPacingAndLcdcWrites :
    (∃ p : Ppu, p.lcdOn = false ∧ p.offCounter < 70224 ∧ p.offCounter + 1 = 70224) ∧
    (∃ (s : State) (v : Byte), s.ppu.lcdc.getLsbD 7 = v.getLsbD 7) ∧
    (∃ (s : State) (v : Byte), s.ppu.lcdc.getLsbD 7 = true ∧ v.getLsbD 7 = false) ∧
    ∃ (s : State) (v : Byte), s.ppu.lcdc.getLsbD 7 = false ∧ v.getLsbD 7 = true :=
  ⟨⟨{ State.reset.ppu with lcdc := 0x11, offCounter := 70223 }, by decide⟩, ⟨State.reset, 0x80, by decide⟩,
    ⟨State.reset, 0x11, by decide⟩,
    ⟨{ State.reset with ppu := { State.reset.ppu with lcdc := 0x11 } }, 0x91, by decide⟩⟩

theorem witness_BackgroundAndWindowPixels :
    (∃ (p : Ppu) (y x : Nat), y < 144 ∧ x < 160 ∧ p.lcdc.getLsbD 0 = true ∧ p.lcdc.getLsbD 1 = true ∧
      (p.lcdc.getLsbD 5 && decide (p.wy.toNat ≤ y) && decide (p.wx.toNat ≤ 166) &&
        decide (p.wx.toNat ≤ x + 7)) = true ∧ y = 143 ∧ x = 159) ∧
    (∃ (p : Ppu) (y x : Nat), y < 144 ∧ x < 160 ∧ p.lcdc.getLsbD 0 = false ∧ p.lcdc.getLsbD 1 = true) ∧
    ∃ (p : Ppu) (y x : Nat), y < 144 ∧ x < 160 ∧ p.lcdc.getLsbD 1 = false :=
  ⟨⟨{ State.reset.ppu with lcdc := 0xB3, wx := 166 }, 143, 159, by decide⟩,
    ⟨{ State.reset.ppu with lcdc := 0x92 }, 0, 0, by decide⟩,
    ⟨{ State.reset.ppu with lcdc := 0x90 }, 143, 0, by decide⟩⟩

/-- Eleven sprites on scanline 0, as in rule R427. -/
def elevenSprites : Ppu :=
  { State.reset.ppu with
    lcdc := 0x93
    oam := Memory.ofBytes
      ((List.range 11).flatMap fun i => [16, BitVec.ofNat 8 (8 + 8 * i), 1, 0]) }

theorem witness_SpriteSelectionAndOrder :
    elevenSprites.spritesOnLine 0 = List.range 10 ∧ (10 : Nat) < 40 ∧ (elevenSprites.oam.read 40).toNat ≤ 0 + 16 ∧
      0 + 16 < (elevenSprites.oam.read 40).toNat + 8 ∧ 10 ∉ elevenSprites.spritesOnLine 0 := by
  decide +kernel

/-- Two sprites on scanline 0 that overlap; the one with the smaller X, entry 1, is in front. -/
def twoSprites : Ppu :=
  { State.reset.ppu with
    lcdc := 0x93
    vram := Memory.ofBytesAt 0x10
      ((List.range 8).flatMap (fun _ => [0xFF, 0x00]) ++ List.replicate 16 0xFF)
    oam := Memory.ofBytes [16, 10, 1, 0, 16, 8, 2, 0] }

theorem witness_SpritePixelsAndPriority :
    twoSprites.lcdc.getLsbD 1 = true ∧ twoSprites.spritesOnLine 0 = [] ++ 1 :: [0] ∧
      twoSprites.spriteIndex 0 7 1 ≠ 0 ∧
    (twoSprites.spritesOnLine 0 = [1] ++ 0 :: [] ∧ (∀ j ∈ [1], twoSprites.spriteIndex 0 8 j = 0) ∧
      twoSprites.spriteIndex 0 8 0 ≠ 0) ∧
    (∀ j ∈ twoSprites.spritesOnLine 0, twoSprites.spriteIndex 0 10 j = 0) ∧
    ((twoSprites.oam.read 0).toNat ≤ 0 + 16 ∧ 0 + 16 < (twoSprites.oam.read 0).toNat + 8) := by
  decide +kernel

/-- A scanline that no entry covers, with sprites on. -/
theorem witness_SpritePixels_none :
    twoSprites.lcdc.getLsbD 1 = true ∧ twoSprites.spritesOnLine 50 = [] ∧
      ∀ j ∈ twoSprites.spritesOnLine 50, twoSprites.spriteIndex 50 7 j = 0 := by
  decide +kernel

theorem witness_LocksOfVramAndOam :
    (∃ s : State, s.ppu.lcdc.getLsbD 7 = true ∧ s.ppu.mode = .transfer) ∧
    (∃ s : State, s.ppu.lcdc.getLsbD 7 = true ∧ s.ppu.mode = .oamScan) ∧
    ∃ s : State, ¬(s.ppu.lcdc.getLsbD 7 = true ∧ (s.ppu.mode = .oamScan ∨ s.ppu.mode = .transfer)) :=
  ⟨⟨{ State.reset with ppu := { State.reset.ppu with mode := .transfer } }, by decide⟩, ⟨State.reset, by decide⟩,
    ⟨{ State.reset with ppu := { State.reset.ppu with mode := .hblank } }, by decide⟩⟩

/-- The first and the last address of every range of the memory statements, in no other range of theirs. -/
theorem witness_address_ranges :
    (0x8000 ≤ (0x8000 : Word).toNat ∧ (0x9FFF : Word).toNat ≤ 0x9FFF) ∧
    (0xFE00 ≤ (0xFE00 : Word).toNat ∧ (0xFE9F : Word).toNat ≤ 0xFE9F) ∧
    (0xC000 ≤ (0xC000 : Word).toNat ∧ (0xDFFF : Word).toNat ≤ 0xDFFF) ∧
    (0xE000 ≤ (0xE000 : Word).toNat ∧ (0xFDFF : Word).toNat ≤ 0xFDFF) ∧
    (0xFF80 ≤ (0xFF80 : Word).toNat ∧ (0xFFFE : Word).toNat ≤ 0xFFFE) ∧
    (0xFEA0 ≤ (0xFEA0 : Word).toNat ∧ (0xFEFF : Word).toNat ≤ 0xFEFF) ∧
    (0xFF4C ≤ (0xFF4C : Word).toNat ∧ (0xFF7F : Word).toNat ≤ 0xFF7F) := by
  decide

theorem witness_DmaCopiesIntoOam :
    (∃ v : Byte, v.toNat * 256 + 159 ≤ 0x7FFF) ∧ (∃ v : Byte, 0x8000 ≤ v.toNat * 256 + 0) ∧
    (∃ v : Byte, 0xA000 ≤ v.toNat * 256 + 0 ∧ v.toNat * 256 + 159 ≤ 0xBFFF) ∧
    (∃ v : Byte, 0xC000 ≤ v.toNat * 256 + 0 ∧ v.toNat * 256 + 159 ≤ 0xDFFF) ∧ ∃ v : Byte, 0xE000 ≤ v.toNat * 256 + 0 :=
  ⟨⟨0x7F, by decide⟩, ⟨0x80, by decide⟩, ⟨0xBF, by decide⟩, ⟨0xDF, by decide⟩, ⟨0xFE, by decide⟩⟩

theorem witness_BankingCommands :
    State.reset.cart.cartType = .none ∧ ramCart.cartType = .mbc1 ∧ (0x1FFF : Word).toNat ≤ 0x1FFF ∧
    (0x2000 ≤ (0x2000 : Word).toNat ∧ (0x3FFF : Word).toNat ≤ 0x3FFF) ∧
    (0x4000 ≤ (0x4000 : Word).toNat ∧ (0x5FFF : Word).toNat ≤ 0x5FFF) ∧
    (0x6000 ≤ (0x6000 : Word).toNat ∧ (0x7FFF : Word).toNat ≤ 0x7FFF) := by
  decide

theorem witness_CartridgeReadsAndRamWrites :
    (∃ c : Cart, c.Inv ∧ c.ramLen ≠ 0 ∧ c.ramEnable = true ∧ c.cartType = .mbc1 ∧
      (0x2000 * 0 + ((0xBFFF : Word).toNat - 0xA000)) % c.ramLen = 0x1FFF) ∧
    ∃ c : Cart, c.Inv ∧ c.ramLen = 0 ∧ c.cartType = .none :=
  ⟨⟨ramCart, ramCart_inv, by decide⟩,
    ⟨State.reset.cart, ⟨by decide, by decide, by decide, by decide, by decide, by decide, by decide⟩, by decide⟩⟩

theorem witness_LoadBuildsTheResetMachine :
    ([] : List Byte).length < 0x0150 ∧
    (0x0150 ≤ (List.replicate 0x0150 (0 : Byte)).length ∧ (List.replicate 0x0150 (0 : Byte)).length < 0x4000) ∧
    0x4000 ≤ (List.replicate 0x4000 (0 : Byte)).length ∧
    (0 : Byte).toNat ≤ 3 ∧ 3 < (5 : Byte).toNat ∧ (5 : Byte).toNat ≤ 5 ∧ 5 < (6 : Byte).toNat := by
  refine ⟨by decide, ⟨?_, ?_⟩, ?_, by decide, by decide, by decide, by decide⟩
  all_goals simp only [List.length_replicate]; omega

theorem witness_StepKeepsTheInvariant :
    ∃ s t : State, s.Inv ∧ step s = .next t :=
  ⟨{ code [0x00] with ppu := ppuAt 153 455, cart := ramCart },
    after { code [0x00] with ppu := ppuAt 153 455, cart := ramCart } |>.advanceDevices,
    ⟨⟨by decide, by decide⟩, ⟨by decide, by decide⟩, ppuAt_inv (by decide) (by decide), ramCart_inv, by decide,
      by decide⟩, rfl⟩

theorem witness_decoding :
    (Instr.jpImm 0xFFFF).wellFormed = true ∧ decode [0xC3, 0x50, 0x01] = .ok (.jpImm 0x0150, []) ∧
      3 ≤ [(0xC3 : Byte), 0x50, 0x01].length := by
  decide

theorem witness_ResetValues : ∃ s : State, s = State.reset := ⟨State.reset, rfl⟩

end Sys2Proof.Tests
end

/-! The state (10_state.md): reset and every step meet the invariant, no step changes what is fixed for a machine
or set by the host, and an outcome ends the run. -/

namespace Sys2Proof.Machine

/-! ### Reset -/

theorem reset_ppu_inv : State.reset.ppu.Inv where
  lyRange := by decide
  dotRange := by decide
  onMode := by decide
  off := by decide
  windowRows := by decide
  offRange := by decide
  vramOk := by decide
  oamOk := by decide
  backShaped := blank_shaped
  frontShaped := blank_shaped

theorem reset_cart_inv : State.reset.cart.Inv where
  romOk := by decide
  banksPresent := by decide
  banksInImage := by decide
  extRamOk := by decide
  ramSize := by decide
  bank1NotZero := by decide
  noneHasNoRam := by decide

/-- Settles O56: nothing is listed in an array, and no counter has left its first value. -/
theorem resetSatisfiesTheInvariant : Obligations.ResetSatisfiesTheInvariant where
  cpu := ⟨by decide, by decide⟩
  timer := ⟨by decide, by decide⟩
  ppu := reset_ppu_inv
  cart := reset_cart_inv
  wramOk := by decide
  hramOk := by decide

/-- Settles O55: each value is the one `State.reset` writes. -/
theorem resetValues : Obligations.ResetValues := by
  rintro s rfl
  and_intros <;> rfl

/-! ### Every step keeps the invariant -/

/-- The poll leaves no CPU halted that goes on to execute. -/
theorem wake_commitIme_running {s : State} (h : s.cpu.halted = false ∨ s.irq.isPending = true) :
    s.wake.commitIme.cpu.halted = false := by
  rw [commitIme_eq, wake_eq]
  rcases h with h | h <;> simp [h]

/-- The EI delay leaves no EI pending. -/
theorem commitIme_committed (s : State) : s.commitIme.cpu.imePending = false := by
  rw [commitIme_eq]

/-- A CPU step keeps the invariant, whichever of the four things it is. -/
theorem cpuStep_inv {s t : State} (h : s.Inv) (hs : s.cpuStep = .next t) : t.Inv := by
  rcases cpuStep_cases s with ⟨f, -, e⟩ | ⟨-, k, e⟩ | ⟨-, -, -, e⟩ | ⟨-, hr, e⟩ <;> rw [e] at hs
  · cases hs
  · cases hs
    exact service_inv (wake_inv h) k
  · cases hs
    exact inv_of_outside h (.cpu s _ _) h.cpu
  · exact exec_inv (commitIme_inv (wake_inv h)) (wake_commitIme_running hr) (commitIme_committed _) hs

/-- Settles O57: the CPU step keeps the invariant, and so do the ticks of the devices after it. -/
theorem stepKeepsTheInvariant : Obligations.StepKeepsTheInvariant := by
  intro s t h hs
  obtain ⟨u, hu, rfl⟩ := step_next hs
  exact advanceDevices_inv (cpuStep_inv h hu)

/-! ### What no step changes -/

/-- What is fixed once a machine is built (rule R59), and the buttons, which only the host sets (rule R482). -/
structure Fixed where
  rom : Memory
  romLen : Nat
  cartType : CartType
  hasRam : Bool
  hasBattery : Bool
  romBanks : Nat
  ramLen : Nat
  policy : IllegalOpcodePolicy
  buttons : Byte

/-- The fixed part of a state. -/
def State.fixed (s : State) : Fixed where
  rom := s.cart.rom
  romLen := s.cart.romLen
  cartType := s.cart.cartType
  hasRam := s.cart.hasRam
  hasBattery := s.cart.hasBattery
  romBanks := s.cart.romBanks
  ramLen := s.cart.ramLen
  policy := s.policy
  buttons := s.joypad.buttons

theorem fixed_eq_iff (s t : State) : t.fixed = s.fixed ↔
    t.cart.rom = s.cart.rom ∧ t.cart.romLen = s.cart.romLen ∧ t.cart.cartType = s.cart.cartType ∧
      t.cart.hasRam = s.cart.hasRam ∧ t.cart.hasBattery = s.cart.hasBattery ∧ t.cart.romBanks = s.cart.romBanks ∧
      t.cart.ramLen = s.cart.ramLen ∧ t.policy = s.policy ∧ t.joypad.buttons = s.joypad.buttons := by
  simp only [State.fixed, Fixed.mk.injEq]

/-- The CPU holds nothing of the fixed part. -/
theorem SameOutsideCpu.fixed {s t : State} (h : SameOutsideCpu s t) : t.fixed = s.fixed := by
  simp only [State.fixed, h.cart, h.policy, h.joypad]

@[simp] theorem busWrite_fixed (s : State) (a : Word) (v : Byte) : (s.busWrite a v).fixed = s.fixed := by
  obtain ⟨hrom, hlen, htype, hbanks, hram, hhas, hbat⟩ := busWrite_cartFixed s a v
  rw [fixed_eq_iff]
  exact ⟨hrom, hlen, htype, hhas, hbat, hbanks, hram, busWrite_policy s a v, busWrite_buttons s a v⟩

/-- An instruction reaches the fixed part only through the bus. -/
theorem exec_fixed {i : Instr} {s t : State} (h : exec i s = .next t) : t.fixed = s.fixed := by
  rcases (exec_effect h).outside with ho | ⟨a, v, ho⟩ | ⟨a, v, b, w, ho⟩ <;> simp [ho.fixed]

@[simp] theorem service_fixed (s : State) (k : IrqSource) : (s.service k).fixed = s.fixed :=
  calc (s.service k).fixed
      = ((s.busWrite (s.cpu.sp - 1) (hiByte s.cpu.pc)).busWrite (s.cpu.sp - 2) (loByte s.cpu.pc)).fixed :=
        (service_outside s k rfl).fixed
    _ = s.fixed := by simp

@[simp] theorem advanceDevices_fixed (s : State) : s.advanceDevices.fixed = s.fixed := by
  rw [(advanceDevices_same s).eq]
  rfl

theorem cpuStep_fixed {s t : State} (h : s.cpuStep = .next t) : t.fixed = s.fixed := by
  have hw : s.wake.fixed = s.fixed := (wake_outside s).fixed
  rcases cpuStep_cases s with ⟨f, -, e⟩ | ⟨-, k, e⟩ | ⟨-, -, -, e⟩ | ⟨-, -, e⟩ <;> rw [e] at h
  · cases h
  · cases h
    rw [service_fixed, hw]
  · cases h
    rfl
  · rw [exec_fixed h, (commitIme_outside _).fixed, hw]

/-- Settles O53: neither the CPU step nor the devices change the fixed part. -/
theorem imageAndParametersNeverChange : Obligations.ImageAndParametersNeverChange := by
  intro s t h
  obtain ⟨u, hu, rfl⟩ := step_next h
  rw [← fixed_eq_iff, advanceDevices_fixed, cpuStep_fixed hu]

/-! ### Outcomes -/

theorem step_dead {s : State} {f : Fault} (h : s.cpu.dead = some f) : step s = .fault f :=
  step_of_fault (cpuStep_dead h)

/-- An outcome writes at most the halted state and `dead`. -/
theorem afterOutcome_eq (s : State) (f : Fault) :
    ∃ h d, s.afterOutcome f = { s with cpu := { s.cpu with halted := h, dead := d } } := by
  cases hd : s.cpu.dead with
  | none => exact ⟨_, _, afterOutcome_alive hd f⟩
  | some g => exact ⟨_, _, afterOutcome_dead hd f⟩

/-- The outcome a step ends in is the one `dead` holds after it. -/
theorem afterOutcome_holds {s : State} {f : Fault} (h : step s = .fault f) :
    (s.afterOutcome f).cpu.dead = some f := by
  cases hd : s.cpu.dead with
  | none => rw [afterOutcome_alive hd]
  | some g =>
    rw [step_dead hd] at h
    cases h
    rw [afterOutcome_dead hd, hd]

/-- A frame whose first step ends in an outcome stops with it. -/
theorem runOneFrame_fault {s : State} {f : Fault} (h : step s = .fault f) (n : Nat) :
    s.runOneFrame (n + 1) = .stopped s.ppu.front f (s.afterOutcome f) := by
  rw [State.runOneFrame, h]
  rfl

/-- Settles O33: `dead` holds the outcome from then on, and a dead machine answers it at once. -/
theorem outcomesEndTheRun : Obligations.OutcomesEndTheRun := by
  intro s f
  refine ⟨step_not_refused s, fun hd => ⟨step_dead hd, afterOutcome_dead hd f⟩, fun h => ?_⟩
  have hcause := cpuStep_fault (step_fault h)
  have hdead := afterOutcome_holds h
  have hagain := step_dead hdead
  have hstays := afterOutcome_dead hdead f
  have hframe := runOneFrame_fault hagain
  rw [hstays] at hframe
  obtain ⟨hl, d, e⟩ := afterOutcome_eq s f
  have hout : SameOutsideCpu s (s.afterOutcome f) := by rw [e]; exact .cpu s _ _
  rw [hout.ppu] at hframe
  refine ⟨?_, hdead, by rw [e], fun q => by rw [e]; cases q <;> rfl, by rw [e], by rw [e], hout, hagain,
    fun n => ⟨runOneFrame_fault h n, hframe n⟩⟩
  rcases hcause with hd | ⟨-, ⟨n, hn⟩, hf⟩ | ⟨-, hk⟩
  · exact .inl hd
  · exact .inr (.inl ⟨n, hn, hf⟩)
  · exact .inr (.inr hk)

end Sys2Proof.Machine

/-! The memory map (20_memory.md): what a bus access does once its owner is known, the locks of video memory, plain
RAM with its echo, the addresses no owner claims, and what the cartridge shows. -/

namespace Sys2Proof.Machine

/-! ### A bus access by the owner of its address -/

section
variable {s : State} {a : Word} {i : Nat}

theorem busRead_rom (h : s.place a = .rom i) : s.busRead a = s.cart.rom.read i := by
  rw [State.busRead, h, State.readPlace]

theorem bus_vram (h : s.place a = .vram i) (v : Byte) :
    s.busRead a = s.ppu.readVram i ∧ s.busWrite a v = { s with ppu := s.ppu.writeVram i v } := by
  simp only [State.busRead, State.readPlace, State.busWrite, h, and_self]

theorem bus_extRam (h : s.place a = .extRam i) (v : Byte) :
    s.busRead a = s.cart.extRam.read i ∧
      s.busWrite a v = { s with cart := { s.cart with extRam := s.cart.extRam.write i v } } := by
  simp only [State.busRead, State.readPlace, State.busWrite, h, and_self]

theorem bus_wram (h : s.place a = .wram i) (v : Byte) :
    s.busRead a = s.wram.read i ∧ s.busWrite a v = { s with wram := s.wram.write i v } := by
  simp only [State.busRead, State.readPlace, State.busWrite, h, and_self]

theorem bus_oam (h : s.place a = .oam i) (v : Byte) :
    s.busRead a = s.ppu.readOam i ∧ s.busWrite a v = { s with ppu := s.ppu.writeOam i v } := by
  simp only [State.busRead, State.readPlace, State.busWrite, h, and_self]

theorem bus_hram (h : s.place a = .hram i) (v : Byte) :
    s.busRead a = s.hram.read i ∧ s.busWrite a v = { s with hram := s.hram.write i v } := by
  simp only [State.busRead, State.readPlace, State.busWrite, h, and_self]

/-- An address without an owner (rule R78). -/
theorem bus_unclaimed (h : s.place a = .unclaimed) (v : Byte) :
    s.busRead a = 0xFF ∧ s.busWrite a v = s := by
  simp only [State.busRead, State.readPlace, State.busWrite, h, and_self]

end

/-! ### The locks -/

section
variable {p : Ppu}

theorem vramLocked_iff : p.vramLocked = true ↔ p.lcdc.getLsbD 7 = true ∧ p.mode = .transfer := by
  simp only [Ppu.vramLocked, Ppu.lcdOn, Bool.and_eq_true, beq_iff_eq]

theorem oamLocked_iff :
    p.oamLocked = true ↔ p.lcdc.getLsbD 7 = true ∧ (p.mode = .oamScan ∨ p.mode = .transfer) := by
  simp only [Ppu.oamLocked, Ppu.lcdOn, Bool.and_eq_true, Bool.or_eq_true, beq_iff_eq]

end

section
variable {s : State} {a : Word} {i : Nat}

theorem bus_vram_locked (hp : s.place a = .vram i) (h : s.ppu.vramLocked = true) (v : Byte) :
    s.busRead a = 0xFF ∧ s.busWrite a v = s := by
  obtain ⟨hr, hw⟩ := bus_vram hp v
  exact ⟨hr.trans (if_pos h), by rw [hw, Ppu.writeVram, if_pos h]⟩

theorem bus_vram_unlocked (hp : s.place a = .vram i) (h : ¬s.ppu.vramLocked = true) (v : Byte) :
    s.busRead a = s.ppu.vram.read i ∧
      s.busWrite a v = { s with ppu := { s.ppu with vram := s.ppu.vram.write i v } } := by
  obtain ⟨hr, hw⟩ := bus_vram hp v
  exact ⟨hr.trans (if_neg h), by rw [hw, Ppu.writeVram, if_neg h]⟩

theorem bus_oam_locked (hp : s.place a = .oam i) (h : s.ppu.oamLocked = true) (v : Byte) :
    s.busRead a = 0xFF ∧ s.busWrite a v = s := by
  obtain ⟨hr, hw⟩ := bus_oam hp v
  exact ⟨hr.trans (if_pos h), by rw [hw, Ppu.writeOam, if_pos h]⟩

theorem bus_oam_unlocked (hp : s.place a = .oam i) (h : ¬s.ppu.oamLocked = true) (v : Byte) :
    s.busRead a = s.ppu.oam.read i ∧
      s.busWrite a v = { s with ppu := { s.ppu with oam := s.ppu.oam.write i v } } := by
  obtain ⟨hr, hw⟩ := bus_oam hp v
  exact ⟨hr.trans (if_neg h), by rw [hw, Ppu.writeOam, if_neg h]⟩

end

/-- Settles O47: the decoder sends the address to the array, and there the lock alone decides. -/
theorem locksOfVramAndOam : Obligations.LocksOfVramAndOam := by
  rintro s a v on rfl
  rw [← vramLocked_iff, ← oamLocked_iff]
  exact ⟨fun lo hi => ⟨fun h => bus_vram_locked (place_vram lo hi) h v,
      fun h => bus_vram_unlocked (place_vram lo hi) h v⟩,
    fun lo hi => ⟨fun h => bus_oam_locked (place_oam lo hi) h v,
      fun h => bus_oam_unlocked (place_oam lo hi) h v⟩⟩

/-! ### Plain RAM, its echo and the unclaimed addresses -/

/-- An echo address leads to the byte of work RAM 0x2000 below it (rule R70). -/
theorem place_sub_of_echo {s : State} {a : Word} (lo : 0xE000 ≤ a.toNat) (hi : a.toNat ≤ 0xFDFF) :
    s.place (a - 0x2000) = .wram (a.toNat - 0xE000) := by
  have e : (a - 0x2000).toNat = a.toNat - 0x2000 := by bv_omega
  rw [place_wram (by omega) (by omega), e, Nat.sub_sub]

/-- No device claims these offsets of the I/O block (rule R78). -/
theorem ioRegAt_eq_none {n : Nat} (h : n = 0x03 ∨ (0x08 ≤ n ∧ n ≤ 0x0E) ∨ (0x10 ≤ n ∧ n ≤ 0x3F) ∨ 0x4C ≤ n) :
    ioRegAt n = none := by
  unfold ioRegAt
  split
  case h_21 => rfl
  all_goals omega

theorem place_noReg {s : State} {a : Word} (lo : 0xFF00 ≤ a.toNat) (hi : a.toNat ≤ 0xFF7F)
    (h : ioRegAt (a.toNat - 0xFF00) = none) : s.place a = .unclaimed := by
  rw [place_io lo hi, h, Option.elim_none]

/-- Settles O48: each range is one owner of the decoder, and the echo shares the owner of work RAM. -/
theorem plainRamEchoAndUnclaimedAddresses : Obligations.PlainRamEchoAndUnclaimedAddresses := by
  rintro s a v n rfl
  refine ⟨fun lo hi => bus_wram (place_wram lo hi) v, fun lo hi => ?echo,
    fun lo hi => bus_hram (place_hram lo hi) v, fun h => bus_unclaimed ?unclaimed v⟩
  case echo =>
    obtain ⟨hr, hw⟩ := bus_wram (place_echo (s := s) lo hi) v
    obtain ⟨hr', hw'⟩ := bus_wram (place_sub_of_echo (s := s) lo hi) v
    exact ⟨hr.trans hr'.symm, hw.trans hw'.symm⟩
  case unclaimed =>
    rcases h with ⟨lo, hi⟩ | hio
    · exact place_unclaimed lo hi
    · exact place_noReg (by omega) (by omega) (ioRegAt_eq_none (by omega))

/-! ### What the cartridge shows -/

theorem romBank_eq (c : Cart) (a : Word) :
    c.romBank a =
      if c.cartType = .none then a.toNat / 0x4000 % c.romBanks
      else if a.toNat ≤ 0x3FFF then (if c.bankMode then c.bank2.toNat * 32 else 0) % c.romBanks
      else (c.bank2.toNat * 32 + c.bank1.toNat) % c.romBanks := by
  unfold Cart.romBank
  cases c.cartType <;> rfl

theorem romIndex_eq (c : Cart) (a : Word) : c.romIndex a = c.romBank a * 0x4000 + a.toNat % 0x4000 := rfl

theorem ramIndex_eq (c : Cart) (a : Word) :
    c.ramIndex a = ((if c.bankMode then c.bank2.toNat else 0) * 0x2000 + (a.toNat - 0xA000)) % c.ramLen := rfl

theorem ramOn_iff {c : Cart} : c.ramOn = true ↔ c.ramLen ≠ 0 ∧ c.ramEnable = true := by
  simp only [Cart.ramOn, Bool.and_eq_true, bne_iff_ne]

/-- External RAM that is absent or disabled is off (rule R65). -/
theorem ramOn_eq_false {c : Cart} (h : c.ramLen = 0 ∨ c.ramEnable = false) : c.ramOn = false := by
  rcases h with h | h <;> simp [Cart.ramOn, h]

/-- Settles O52: a ROM address leads to its byte of the image, which the invariant keeps inside; the window of
external RAM leads to its byte while the RAM is on, and to no owner otherwise. -/
theorem cartridgeReadsAndRamWrites : Obligations.CartridgeReadsAndRamWrites := by
  rintro s a v bank ramBank i hc rfl rfl hi
  rw [← ramIndex_eq] at hi
  rw [← romBank_eq, ← romIndex_eq, hi]
  refine ⟨fun hi => ⟨busRead_rom (place_rom hi), romIndex_lt hc a⟩, fun lo hi => ⟨fun off => ?_, fun hl he => ?_⟩⟩
  · have hp : s.place a = .unclaimed := by
      rw [place_extRam lo hi, ramOn_eq_false off, if_neg Bool.false_ne_true]
    exact bus_unclaimed hp v
  · have on : s.cart.ramOn = true := ramOn_iff.2 ⟨hl, he⟩
    have hp : s.place a = .extRam (s.cart.ramIndex a) := by rw [place_extRam lo hi, if_pos on]
    exact ⟨ramIndex_lt on a, bus_extRam hp v⟩

end Sys2Proof.Machine

/-! The encoding (30_encoding.md): decoding what the encoder writes gives the instruction back, encoding what the
decoder reads gives the bytes back, and a step executes what the decoder reads at `pc`. -/

namespace Sys2Proof

/-! ### From the instruction to its bytes and back

Each shape of instruction has one format of rule R114: the opcode alone, the opcode and a byte, or the opcode and a
word with its low byte first. -/

/-- The encoding of `i`, whatever follows it, decodes to `i` and what follows. -/
def Instr.ReadBack (i : Instr) : Prop := ∀ rest : List Byte, decode (encode i ++ rest) = .ok (i, rest)

section
variable {i : Instr} {op n : Byte}

theorem readBack_opcode (he : encode i = [op]) (hl : lengthOf op = 1) (hd : ∀ n1 n2, decodeBytes op n1 n2 = i) :
    i.ReadBack := by
  intro rest
  rw [he, decode_append (tail := []) hl.symm, hd]

theorem readBack_byte (he : encode i = [op, n]) (hl : lengthOf op = 2) (hd : ∀ n2, decodeBytes op n n2 = i) :
    i.ReadBack := by
  intro rest
  rw [he, decode_append (tail := [n]) hl.symm, ← hd (([n] ++ rest).getD 1 0)]
  rfl

/-- The two bytes of the operand join to the operand again. -/
theorem readBack_word {f : Word → Instr} (he : ∀ nn, encode (f nn) = [op, loByte nn, hiByte nn])
    (hl : lengthOf op = 3) (hd : ∀ n1 n2, decodeBytes op n1 n2 = f (joinBytes n2 n1)) (nn : Word) :
    (f nn).ReadBack := by
  intro rest
  have hop : decodeBytes op (loByte nn) (hiByte nn) = f nn := by rw [hd, joinBytes_hiByte_loByte]
  rw [he, decode_append (tail := [loByte nn, hiByte nn]) hl.symm, ← hop]
  rfl

end

theorem readBack_of_wellFormed {i : Instr} (h : i.wellFormed = true) : i.ReadBack := by
  induction i using Instr.byShape
  case prefixCb => cases h
  case ldRegReg dst src => cases dst <;> cases src <;> exact readBack_opcode rfl rfl fun _ _ => rfl
  case aluReg k r => cases k <;> cases r <;> exact readBack_opcode rfl rfl fun _ _ => rfl
  case ldRegHl r | ldHlReg r | incReg r | decReg r => cases r <;> exact readBack_opcode rfl rfl fun _ _ => rfl
  case addHlPair p | incPair p | decPair p | popPair p | pushPair p =>
    cases p <;> exact readBack_opcode rfl rfl fun _ _ => rfl
  case aluHl k | illegal k => cases k <;> exact readBack_opcode rfl rfl fun _ _ => rfl
  case retCond cc => cases cc <;> exact readBack_opcode rfl rfl fun _ _ => rfl
  case rst y => fin_cases y <;> exact readBack_opcode rfl rfl fun _ _ => rfl
  case nop | ldIndBcA | rlca | ldAIndBc | rrca | ldIndDeA | rla | ldAIndDe | rra | ldIndHlIncA | daa | ldAIndHlInc
      | cpl | ldIndHlDecA | incIndHl | decIndHl | scf | ldAIndHlDec | ccf | halt | ret | reti | ldhIndCA | jpHl
      | ldhAIndC | di | ldSpHl | ei =>
    exact readBack_opcode rfl rfl fun _ _ => rfl
  case rotReg k r => cases k <;> cases r <;> exact readBack_byte rfl rfl fun _ => rfl
  case rotHl k | aluImm k _ => cases k <;> exact readBack_byte rfl rfl fun _ => rfl
  case bitReg b r | resReg b r | setReg b r =>
    fin_cases b <;> cases r <;> exact readBack_byte rfl rfl fun _ => rfl
  case bitHl b | resHl b | setHl b => fin_cases b <;> exact readBack_byte rfl rfl fun _ => rfl
  case ldRegImm r _ => cases r <;> exact readBack_byte rfl rfl fun _ => rfl
  case jrCond cc _ => cases cc <;> exact readBack_byte rfl rfl fun _ => rfl
  case stop | jrRel | ldIndHlImm | ldhIndImmA | addSpRel | ldhAIndImm | ldHlSpRel =>
    exact readBack_byte rfl rfl fun _ => rfl
  case ldPairImm p nn => cases p <;> exact readBack_word (fun _ => rfl) rfl (fun _ _ => rfl) nn
  case jpCond cc nn | callCond cc nn => cases cc <;> exact readBack_word (fun _ => rfl) rfl (fun _ _ => rfl) nn
  case ldIndAbsSp nn | jpImm nn | callImm nn | ldIndAbsA nn | ldAIndAbs nn =>
    exact readBack_word (fun _ => rfl) rfl (fun _ _ => rfl) nn

/-- Settles O58: every shape reads back in its format. -/
theorem decodeOfEncodeIsTheInstruction : Obligations.DecodeOfEncodeIsTheInstruction :=
  fun _ rest h => readBack_of_wellFormed h rest

/-! ### From the bytes to the instruction and back -/

/-- What is decoded from `op`, `n1` and `n2` is well-formed, and its encoding is as many of these bytes as the
first byte asks for. -/
structure WritesBack (op n1 n2 : Byte) : Prop where
  wellFormed : (decodeBytes op n1 n2).wellFormed = true
  encodes : encode (decodeBytes op n1 n2) = [op, n1, n2].take (lengthOf op)

section
variable {op n1 n2 : Byte}

theorem writesBack_opcode (hl : lengthOf op = 1) (hw : (decodeBytes op n1 n2).wellFormed = true)
    (he : encode (decodeBytes op n1 n2) = [op]) : WritesBack op n1 n2 :=
  ⟨hw, by rw [he, hl]; rfl⟩

theorem writesBack_byte (hl : lengthOf op = 2) (hw : (decodeBytes op n1 n2).wellFormed = true)
    (he : encode (decodeBytes op n1 n2) = [op, n1]) : WritesBack op n1 n2 :=
  ⟨hw, by rw [he, hl]; rfl⟩

/-- The operand joined from the two bytes has them as its halves. -/
theorem writesBack_word (hl : lengthOf op = 3) (hw : (decodeBytes op n1 n2).wellFormed = true)
    (he : encode (decodeBytes op n1 n2) = [op, loByte (joinBytes n2 n1), hiByte (joinBytes n2 n1)]) :
    WritesBack op n1 n2 :=
  ⟨hw, by rw [he, hl, loByte_joinBytes, hiByte_joinBytes]; rfl⟩

end

theorem decodeExtended_wellFormed : ∀ op2 : Byte, (decodeExtended op2).wellFormed = true := by
  decide +kernel

theorem encode_decodeExtended : ∀ op2 : Byte, encode (decodeExtended op2) = [0xCB, op2] := by
  decide +kernel

/-- The opcode byte with these fields (rule R112). -/
def joinFields (x : Fin 4) (y z : Fin 8) : Byte := BitVec.ofNat 8 (64 * x + 8 * y + z)

theorem exists_joinFields : ∀ op : Byte, ∃ x y z, op = joinFields x y z := by
  decide +kernel

/-- To prove something of every three-bit field, prove it of each value. -/
theorem field_cases {motive : Fin 8 → Prop} (at0 : motive 0) (at1 : motive 1) (at2 : motive 2) (at3 : motive 3)
    (at4 : motive 4) (at5 : motive 5) (at6 : motive 6) (at7 : motive 7) (y : Fin 8) : motive y := by
  fin_cases y <;> assumption

/-! The four quarters of the primary table, column by column of the field `z`: the rows of each length are those that
rule R123 lists. -/

section
variable (y z : Fin 8) (n1 n2 : Byte)

theorem writesBack_x0 : WritesBack (joinFields 0 y z) n1 n2 := by
  induction z using field_cases
  case at0 =>
    induction y using field_cases
    case at0 => exact writesBack_opcode rfl rfl rfl
    case at1 => exact writesBack_word rfl rfl rfl
    all_goals exact writesBack_byte rfl rfl rfl
  case at1 =>
    induction y using field_cases
    case at0 | at2 | at4 | at6 => exact writesBack_word rfl rfl rfl
    all_goals exact writesBack_opcode rfl rfl rfl
  case at6 => induction y using field_cases <;> exact writesBack_byte rfl rfl rfl
  all_goals induction y using field_cases <;> exact writesBack_opcode rfl rfl rfl

theorem writesBack_x1 : WritesBack (joinFields 1 y z) n1 n2 := by
  induction z using field_cases <;> induction y using field_cases <;> exact writesBack_opcode rfl rfl rfl

theorem writesBack_x2 : WritesBack (joinFields 2 y z) n1 n2 := by
  induction z using field_cases <;> induction y using field_cases <;> exact writesBack_opcode rfl rfl rfl

theorem writesBack_x3 : WritesBack (joinFields 3 y z) n1 n2 := by
  induction z using field_cases
  case at0 =>
    induction y using field_cases
    case at0 | at1 | at2 | at3 => exact writesBack_opcode rfl rfl rfl
    all_goals exact writesBack_byte rfl rfl rfl
  case at2 =>
    induction y using field_cases
    case at4 | at6 => exact writesBack_opcode rfl rfl rfl
    all_goals exact writesBack_word rfl rfl rfl
  case at3 =>
    induction y using field_cases
    case at0 => exact writesBack_word rfl rfl rfl
    case at1 => exact writesBack_byte rfl (decodeExtended_wellFormed n1) (encode_decodeExtended n1)
    all_goals exact writesBack_opcode rfl rfl rfl
  case at4 =>
    induction y using field_cases
    case at0 | at1 | at2 | at3 => exact writesBack_word rfl rfl rfl
    all_goals exact writesBack_opcode rfl rfl rfl
  case at5 =>
    induction y using field_cases
    case at1 => exact writesBack_word rfl rfl rfl
    all_goals exact writesBack_opcode rfl rfl rfl
  case at6 => induction y using field_cases <;> exact writesBack_byte rfl rfl rfl
  all_goals induction y using field_cases <;> exact writesBack_opcode rfl rfl rfl

end

theorem writesBack (op n1 n2 : Byte) : WritesBack op n1 n2 := by
  obtain ⟨x, y, z, rfl⟩ := exists_joinFields op
  fin_cases x
  · exact writesBack_x0 y z n1 n2
  · exact writesBack_x1 y z n1 n2
  · exact writesBack_x2 y z n1 n2
  · exact writesBack_x3 y z n1 n2

/-- What the decoder answers when it answers an instruction. -/
theorem decode_cons_ok {op : Byte} {tail rest : List Byte} {i : Instr} (h : decode (op :: tail) = .ok (i, rest)) :
    lengthOf op ≤ tail.length + 1 ∧ i = decodeBytes op (tail.getD 0 0) (tail.getD 1 0) ∧
      rest = tail.drop (lengthOf op - 1) := by
  rw [decode] at h
  split at h
  · cases h
  · cases h
    exact ⟨by omega, rfl, rfl⟩

/-- Bytes that a string does not hold are not among those its first byte asks for. -/
theorem take_lengthOf {op : Byte} {tail : List Byte} (h : lengthOf op ≤ tail.length + 1) :
    [op, tail.getD 0 0, tail.getD 1 0].take (lengthOf op) = op :: tail.take (lengthOf op - 1) := by
  have hl := lengthOf_range op
  generalize lengthOf op = l at h hl
  obtain rfl | rfl | rfl : l = 1 ∨ l = 2 ∨ l = 3 := by omega
  · rfl
  · obtain _ | ⟨n1, tail⟩ := tail
    · simp at h
    · rfl
  · obtain _ | ⟨n1, _ | ⟨n2, tail⟩⟩ := tail
    · simp at h
    · simp at h
    · rfl

/-- Settles O59: the bytes read are as many of the string as its first byte asks for, and these are written back. -/
theorem encodeOfDecodeIsTheBytes : Obligations.EncodeOfDecodeIsTheBytes := by
  intro bs
  obtain _ | ⟨op, tail⟩ := bs
  · exact ⟨fun _ _ h => (nomatch h), fun h => absurd h (by decide)⟩
  refine ⟨fun i rest h => ?_, fun h => ?_⟩
  · obtain ⟨hl, rfl, rfl⟩ := decode_cons_ok h
    have hpos := (lengthOf_range op).1
    obtain ⟨hw, he⟩ := writesBack op (tail.getD 0 0) (tail.getD 1 0)
    rw [take_lengthOf hl] at he
    refine ⟨?_, hw, ?_⟩
    · rw [he, List.cons_append, List.take_append_drop]
    · rw [he, List.length_cons, List.length_take, List.getD_cons_zero]
      omega
  · obtain _ | ⟨n1, _ | ⟨n2, tail⟩⟩ := tail
    · simp at h
    · simp at h
    · exact ⟨_, _, decode_three op n1 n2 tail⟩

/-- Settles O60: the decoder runs on each word. -/
theorem decodesWordsOfTheSpec : Obligations.DecodesWordsOfTheSpec :=
  ⟨rfl, rfl, rfl, rfl, rfl, rfl, rfl, rfl, rfl, rfl, rfl, rfl, rfl, rfl⟩

end Sys2Proof

namespace Sys2Proof.Machine

/-- What the three bytes at `pc` decode to is what the step fetches (rule R113). -/
theorem fetched_of_decode {s : State} {i : Instr} {rest : List Byte}
    (h : decode [s.busRead s.cpu.pc, s.busRead (s.cpu.pc + 1), s.busRead (s.cpu.pc + 2)] = .ok (i, rest)) :
    s.fetched = i := by
  rw [decode_three] at h
  cases h
  rfl

/-- Settles O34: the CPU step is the one that runs an instruction, and it is the fetched one. -/
theorem stepRunsTheDecodedInstruction : Obligations.StepRunsTheDecodedInstruction := by
  intro s i rest hd hi hh h
  have hcpu := cpuStep_run hd hi hh
  rw [fetched_of_decode h] at hcpu
  have hstep := step_eq s
  rw [hcpu] at hstep
  exact ⟨hcpu, hstep⟩

end Sys2Proof.Machine

/-! The 8-bit loads (40_load8.md): the frame of each state update, what one register written or one byte stored
leaves, and the same where HL moves by one. -/

namespace Sys2Proof.Machine

/-! ### The frame of an update

Each rule drops one update from `t` in `SameRegsBut s t ds`, so that `simp` takes a frame back to `s` itself. -/

section
variable (s t : State) {ds : List Reg8}

@[simp] theorem sameRegsBut_refl : SameRegsBut s s ds :=
  ⟨fun _ _ => rfl, rfl, rfl, rfl, rfl, rfl⟩

@[simp] theorem sameRegsBut_advance (n : Nat) : SameRegsBut s (t.advance n) ds ↔ SameRegsBut s t ds := by
  simp [SameRegsBut, SameLatches]

@[simp] theorem sameRegsBut_returning (n : Nat) : SameRegsBut s (t.returning n) ds ↔ SameRegsBut s t ds := by
  simp [SameRegsBut, SameLatches]

@[simp] theorem sameRegsBut_busWrite (a : Word) (v : Byte) :
    SameRegsBut s (t.busWrite a v) ds ↔ SameRegsBut s t ds := by
  simp [SameRegsBut, SameLatches]

/-- A register the frame leaves free may be written. -/
@[simp] theorem sameRegsBut_putReg {r : Reg8} (hr : r ∈ ds) (v : Byte) :
    SameRegsBut s (t.putReg r v) ds ↔ SameRegsBut s t ds := by
  have hregs : ∀ q, q ∉ ds → (t.putReg r v).reg q = t.reg q := fun q hq =>
    reg_putReg_ne t v (fun e => hq (e ▸ hr))
  simp +contextual [SameRegsBut, SameLatches, hregs]

/-- HL may be written where the frame leaves H and L free. -/
@[simp] theorem sameRegsBut_putHl (hh : Reg8.h ∈ ds) (hl : Reg8.l ∈ ds) (w : Word) :
    SameRegsBut s (t.putHl w) ds ↔ SameRegsBut s t ds := by
  rw [State.putHl, sameRegsBut_putReg _ _ hl, sameRegsBut_putReg _ _ hh]

end

/-! ### One register written, or one byte stored -/

section
variable (s : State) (a : Word) (v : Byte) (len ticks : Nat)

/-- An instruction that writes one register and nothing else. -/
theorem completes_putReg (r : Reg8) : Completes (((s.advance len).putReg r v).done ticks) fun t =>
    t.reg r = v ∧ t.cpu.f = s.cpu.f ∧ SameRegsBut s t [r] ∧ SameOutsideCpu s t ∧
      Ends t (s.cpu.pc + BitVec.ofNat 16 len) ticks :=
  ⟨_, done_eq _ _, by simp, by simp, by simp, by simp [sameOutside_iff], by simp [Ends]⟩

/-- An instruction that stores one byte and nothing else. -/
theorem completes_busWrite : Completes (((s.advance len).busWrite a v).done ticks) fun t =>
    OneStore s t a v ∧ t.cpu.f = s.cpu.f ∧ SameRegsBut s t [] ∧
      Ends t (s.cpu.pc + BitVec.ofNat 16 len) ticks :=
  ⟨_, done_eq _ _, .of_same (by simp [sameOutside_iff]), by simp, by simp, by simp [Ends]⟩

theorem completes_loadA : Completes (loadA a ticks (s.advance len)) fun t =>
    t.cpu.a = s.busRead a ∧ t.cpu.f = s.cpu.f ∧ SameRegsBut s t [.a] ∧ SameOutsideCpu s t ∧
      Ends t (s.cpu.pc + BitVec.ofNat 16 len) ticks := by
  rw [loadA, busRead_advance]
  exact completes_putReg s _ len ticks .a

theorem completes_storeA : Completes (storeA a ticks (s.advance len)) fun t =>
    OneStore s t a s.cpu.a ∧ t.cpu.f = s.cpu.f ∧ SameRegsBut s t [] ∧
      Ends t (s.cpu.pc + BitVec.ofNat 16 len) ticks := by
  rw [storeA, advance_reg_a]
  exact completes_busWrite s a _ len ticks

end

/-! ### Registers and the byte at HL -/

theorem encode_ldRegReg (dst src : Reg8) :
    encode (Instr.ldRegReg dst src) = [BitVec.ofNat 8 (0x40 + 8 * codeOfReg dst + codeOfReg src)] := by
  cases dst <;> cases src <;> rfl

theorem encode_ldRegImm (dst : Reg8) (n : Byte) :
    encode (Instr.ldRegImm dst n) = [BitVec.ofNat 8 (0x06 + 8 * codeOfReg dst), n] := by
  cases dst <;> rfl

theorem encode_ldRegHl (dst : Reg8) :
    encode (Instr.ldRegHl dst) = [BitVec.ofNat 8 (0x46 + 8 * codeOfReg dst)] := by
  cases dst <;> rfl

theorem encode_ldHlReg (src : Reg8) :
    encode (Instr.ldHlReg src) = [BitVec.ofNat 8 (0x70 + codeOfReg src)] := by
  cases src <;> rfl

section
variable (s : State)

theorem loadRegReg_eq (dst src : Reg8) :
    loadRegReg dst src s = ((s.advance 1).putReg dst (s.reg src)).done 4 := by
  rw [loadRegReg, advance_reg]

theorem loadRegHl_eq (dst : Reg8) :
    loadRegHl dst s = ((s.advance 1).putReg dst (s.busRead s.hl)).done 8 := by
  rw [loadRegHl, State.atHl, busRead_advance, advance_hl]

theorem storeHlReg_eq (src : Reg8) :
    storeHlReg src s = ((s.advance 1).busWrite s.hl (s.reg src)).done 8 := by
  rw [storeHlReg, State.storeHl, advance_reg, advance_hl]

end

/-- Settles O1: every load writes its one register, and every store its one byte. -/
theorem registerLoadsAndStoresAtHl : Obligations.RegisterLoadsAndStoresAtHl := by
  refine ⟨fun s dst => ⟨fun src => ⟨encode_ldRegReg dst src, ?_⟩, fun n => ⟨encode_ldRegImm dst n, ?_⟩,
    encode_ldRegHl dst, ?_⟩, fun s => ⟨fun src => ⟨encode_ldHlReg src, ?_⟩, fun n => ⟨rfl, ?_⟩⟩⟩
  · rw [exec_ldRegReg, loadRegReg_eq]
    exact completes_putReg s _ 1 4 dst
  · rw [exec_ldRegImm]
    exact completes_putReg s n 2 8 dst
  · rw [exec_ldRegHl, loadRegHl_eq]
    exact completes_putReg s _ 1 8 dst
  · rw [exec_ldHlReg, storeHlReg_eq]
    exact completes_busWrite s _ _ 1 8
  · exact completes_busWrite s _ n 2 12

/-! ### A at BC, DE, an absolute address and the high page -/

/-- Settles O2: every form is the one load or the one store of A, at its address. -/
theorem accumulatorLoadsAndStores : Obligations.AccumulatorLoadsAndStores := by
  simp only [Obligations.AccumulatorLoadsAndStores, ← highPage_eq]
  refine ⟨fun s => ?loads, fun s => ?stores⟩
  case loads =>
    exact ⟨⟨rfl, completes_loadA s _ 1 8⟩, ⟨rfl, completes_loadA s _ 1 8⟩,
      fun nn => ⟨rfl, completes_loadA s nn 3 16⟩, ⟨rfl, completes_loadA s _ 1 8⟩,
      fun n => ⟨rfl, completes_loadA s _ 2 12⟩⟩
  case stores =>
    exact ⟨⟨rfl, completes_storeA s _ 1 8⟩, ⟨rfl, completes_storeA s _ 1 8⟩,
      fun nn => ⟨rfl, completes_storeA s nn 3 16⟩, ⟨rfl, completes_storeA s _ 1 8⟩,
      fun n => ⟨rfl, completes_storeA s _ 2 12⟩⟩

/-! ### A at HL, which then moves -/

section
variable (s : State) (w : Word)

theorem completes_loadA_putHl :
    Completes ((((s.advance 1).putReg .a (s.busRead s.hl)).putHl w).done 8) fun t =>
      t.cpu.a = s.busRead s.hl ∧ t.hl = w ∧ t.cpu.f = s.cpu.f ∧ SameRegsBut s t [.a, .h, .l] ∧
        SameOutsideCpu s t ∧ Ends t (s.cpu.pc + 1) 8 :=
  ⟨_, done_eq _ _, by simp, by simp, by simp, by simp, by simp [sameOutside_iff], by simp [Ends]⟩

/-- HL moves whether the write reaches a byte or is dropped. -/
theorem completes_storeA_putHl :
    Completes ((((s.advance 1).busWrite s.hl s.cpu.a).putHl w).done 8) fun t =>
      OneStore s t s.hl s.cpu.a ∧ t.hl = w ∧ t.cpu.f = s.cpu.f ∧ SameRegsBut s t [.h, .l] ∧
        Ends t (s.cpu.pc + 1) 8 :=
  ⟨_, done_eq _ _, .of_same (by simp [sameOutside_iff]), by simp, by simp, by simp, by simp [Ends]⟩

theorem exec_ldAIndHlInc : exec .ldAIndHlInc s =
    (((s.advance 1).putReg .a (s.busRead s.hl)).putHl (s.hl + 1)).done 8 := by
  change execLdAIndHlInc s = _
  rw [execLdAIndHlInc, State.bumpHl, State.atHl, putReg_a_pair_hl, advance_hl, busRead_advance]

theorem exec_ldAIndHlDec : exec .ldAIndHlDec s =
    (((s.advance 1).putReg .a (s.busRead s.hl)).putHl (s.hl - 1)).done 8 := by
  change execLdAIndHlDec s = _
  rw [execLdAIndHlDec, State.dropHl, State.atHl, putReg_a_pair_hl, advance_hl, busRead_advance]

theorem exec_ldIndHlIncA : exec .ldIndHlIncA s =
    (((s.advance 1).busWrite s.hl s.cpu.a).putHl (s.hl + 1)).done 8 := by
  change execLdIndHlIncA s = _
  rw [execLdIndHlIncA, State.bumpHl, State.storeHl, busWrite_hl, advance_hl, advance_reg_a]

theorem exec_ldIndHlDecA : exec .ldIndHlDecA s =
    (((s.advance 1).busWrite s.hl s.cpu.a).putHl (s.hl - 1)).done 8 := by
  change execLdIndHlDecA s = _
  rw [execLdIndHlDecA, State.dropHl, State.storeHl, busWrite_hl, advance_hl, advance_reg_a]

end

/-- Settles O3: the address is the HL before, and the HL after is one further up or down. -/
theorem loadsAndStoresThatMoveHl : Obligations.LoadsAndStoresThatMoveHl := by
  rintro s _ rfl
  rw [exec_ldAIndHlInc, exec_ldAIndHlDec, exec_ldIndHlIncA, exec_ldIndHlDecA]
  exact ⟨⟨rfl, completes_loadA_putHl s _⟩, ⟨rfl, completes_loadA_putHl s _⟩,
    ⟨rfl, completes_storeA_putHl s _⟩, ⟨rfl, completes_storeA_putHl s _⟩⟩

end Sys2Proof.Machine

/-! The 16-bit loads and the stack (41_load16_stack.md): a pair written, two bytes stored, and the stack, where a
pop reads what a push stored. -/

namespace Sys2Proof.Machine

/-! ### The frame of an update -/

section
variable (s t : State) {ds : List Reg8}

/-- F is no register of the frame's list. -/
@[simp] theorem sameRegsBut_putF (v : Byte) : SameRegsBut s (t.putF v) ds ↔ SameRegsBut s t ds := by
  simp [SameRegsBut, SameLatches]

end

/-! ### A stack pair written -/

/-- The registers of a stack pair, without F. -/
def stackPairParts : StackPair → List Reg8
  | .bc => [.b, .c]
  | .de => [.d, .e]
  | .hl => [.h, .l]
  | .af => [.a]

/-- Masking the low byte masks the word. -/
theorem joinBytes_loByte_mask (w : Word) : joinBytes (hiByte w) (loByte w &&& 0xF0) = w &&& 0xFFF0 := by
  have hhi : hiByte (w &&& 0xFFF0) = hiByte w := BitVec.extractLsb'_and.trans BitVec.and_allOnes
  have hlo : loByte (w &&& 0xFFF0) = loByte w &&& 0xF0 := BitVec.extractLsb'_and
  rw [← hhi, ← hlo, joinBytes_hiByte_loByte]

section
variable (s : State) (p : StackPair) (w : Word)

@[simp] theorem putStackPair_sp : (s.putStackPair p w).cpu.sp = s.cpu.sp := by
  cases p <;> rfl

/-- A register that is no part of the stack pair is unchanged by a write of the pair. -/
theorem reg_putStackPair_ne {q : Reg8} (hq : q ∉ stackPairParts p) :
    (s.putStackPair p w).reg q = s.reg q := by
  cases p <;> simp only [stackPairParts, List.mem_cons, List.not_mem_nil, or_false, not_or] at hq
  case af => rw [State.putStackPair, putF_reg, reg_putReg_ne _ _ hq]
  all_goals
    obtain ⟨hhigh, hlow⟩ := hq
    exact (reg_putReg_ne _ _ hlow).trans (reg_putReg_ne _ _ hhigh)

/-- A stack pair holds the word written to it, AF without its low nibble. -/
theorem stackPair_putStackPair_same :
    (s.putStackPair p w).stackPair p = if p = .af then w &&& 0xFFF0 else w := by
  cases p
  case af => exact joinBytes_loByte_mask w
  all_goals exact joinBytes_hiByte_loByte w

end

/-! ### A pair written -/

section
variable (s : State) (w : Word) (len ticks : Nat)

/-- An instruction that writes one pair and nothing else. -/
theorem completes_putPair (p : Pair) : Completes (((s.advance len).putPair p w).done ticks) fun t =>
    t.pair p = w ∧ t.cpu.f = s.cpu.f ∧ SameRegsButPair s t p ∧ SameOutsideCpu s t ∧
      Ends t (s.cpu.pc + BitVec.ofNat 16 len) ticks := by
  have hframe : SameRegsButPair s (((s.advance len).putPair p w).returning ticks) p := by
    simp +contextual [SameRegsButPair, SameLatches, reg_putPair_ne, putPair_sp_ne]
  exact ⟨_, done_eq _ _, by simp, by simp, hframe, by simp [sameOutside_iff], by simp [Ends]⟩

theorem encode_ldPairImm (p : Pair) (nn : Word) :
    encode (Instr.ldPairImm p nn) = [BitVec.ofNat 8 (0x01 + 16 * codeOfPair p), loByte nn, hiByte nn] := by
  cases p <;> rfl

end

/-- Settles O4: every form writes its one pair. -/
theorem pairImmediateLoadsResultAndFrame : Obligations.PairImmediateLoadsResultAndFrame := by
  intro s p nn
  rw [exec_ldPairImm]
  exact ⟨encode_ldPairImm p nn, completes_putPair s nn 3 12 p⟩

/-! ### SP stored, copied, and added to -/

section
variable (s : State)

theorem completes_ldIndAbsSp (nn : Word) : Completes (exec (.ldIndAbsSp nn) s) fun t =>
    TwoStores s t nn (loByte s.cpu.sp) (nn + 1) (hiByte s.cpu.sp) ∧ t.cpu.f = s.cpu.f ∧ SameRegsBut s t [] ∧
      Ends t (s.cpu.pc + 3) 20 :=
  ⟨_, rfl, .of_same (by simp [sameOutside_iff]), by simp, by simp, by simp [Ends]⟩

theorem completes_ldHlSpRel (e : Byte) : Completes (exec (.ldHlSpRel e) s) fun t =>
    (t.hl.toNat : Int) = ((s.cpu.sp.toNat : Int) + displacement e) % 0x10000 ∧
      FlagsAre t.cpu.f false false (decide (0x0F < s.cpu.sp.toNat % 16 + e.toNat % 16))
        (decide (0xFF < s.cpu.sp.toNat % 256 + e.toNat)) ∧
      SameRegsBut s t [.h, .l] ∧ SameOutsideCpu s t ∧ Ends t (s.cpu.pc + 2) 12 := by
  refine ⟨_, rfl, ?sum, flagsAre_spRelFlags _ e, by simp, by simp [sameOutside_iff], by simp [Ends]⟩
  case sum =>
    rw [returning_hl, putF_hl, hl_putHl]
    exact toNat_add_sext16 s.cpu.sp e

end

/-- Settles O5: two bytes stored, the pair SP written, and HL and the flags written. -/
theorem stackPointerMovesResultAndFrame : Obligations.StackPointerMovesResultAndFrame := fun s =>
  ⟨fun nn => ⟨rfl, completes_ldIndAbsSp s nn⟩, ⟨rfl, completes_putPair s s.hl 1 8 .sp⟩,
    fun e => ⟨rfl, completes_ldHlSpRel s e⟩⟩

/-! ### Push and pop -/

section
variable (s : State) (p : StackPair)

@[simp] theorem stackTop_advance (n : Nat) : (s.advance n).stackTop = s.stackTop := by
  simp [State.stackTop]

theorem encode_pushPair : encode (Instr.pushPair p) = [BitVec.ofNat 8 (0xC5 + 16 * codeOfStackPair p)] := by
  cases p <;> rfl

/-- The state a `PUSH` leaves. -/
def State.pushed : State := ((s.advance 1).push16 (s.stackPair p)).returning 16

/-- The state a `POP` leaves. -/
def State.popped : State := ((s.advance 1).dropTop.putStackPair p s.stackTop).returning 12

theorem exec_pushPair_pushed : exec (Instr.pushPair p) s = .next (s.pushed p) := by
  rw [exec_pushPair, pushFrom, advance_stackPair, done_eq, State.pushed]

theorem exec_popPair_popped : exec (Instr.popPair p) s = .next (s.popped p) := by
  rw [exec_popPair, popInto, stackTop_advance, done_eq, State.popped]

/-- A push stores the two bytes, moves SP, and leaves every register and every latch. -/
theorem pushed_spec :
    TwoStores s (s.pushed p) (s.cpu.sp - 1) (hiByte (s.stackPair p)) (s.cpu.sp - 2) (loByte (s.stackPair p)) ∧
      (s.pushed p).cpu.sp = s.cpu.sp - 2 ∧ (s.pushed p).cpu.f = s.cpu.f ∧ SameRegsButPair s (s.pushed p) .sp ∧
      Ends (s.pushed p) (s.cpu.pc + 1) 16 := by
  simp only [State.pushed, push16_eq, advance_sp]
  exact ⟨.of_same (by simp [sameOutside_iff]), by simp, by simp, by simp [SameRegsButPair, SameLatches],
    by simp [Ends]⟩

/-- What every pop does and leaves unchanged, whichever pair it loads. -/
theorem popped_frame : (s.popped p).cpu.sp = s.cpu.sp + 2 ∧
    (∀ q : Reg8, q ∉ stackPairParts p → (s.popped p).reg q = s.reg q) ∧ SameLatches s (s.popped p) ∧
    SameOutsideCpu s (s.popped p) ∧ Ends (s.popped p) (s.cpu.pc + 1) 12 := by
  simp only [State.popped, dropTop_eq]
  exact ⟨by simp, fun q hq => by simp [reg_putStackPair_ne _ _ _ hq], by simp [SameLatches],
    by simp [sameOutside_iff], by simp [Ends]⟩

end

/-- Settles O6: a push stores the halves of its pair, and a pop loads its pair from the two bytes at SP. -/
theorem pushAndPopResultAndFrame : Obligations.PushAndPopResultAndFrame := by
  refine ⟨fun s p => ⟨encode_pushPair p, _, exec_pushPair_pushed s p, pushed_spec s p⟩, ?pop⟩
  rintro s _ _ rfl rfl
  have hhi : hiByte s.stackTop = s.busRead (s.cpu.sp + 1) := hiByte_joinBytes _ _
  have hlo : loByte s.stackTop = s.busRead s.cpu.sp := loByte_joinBytes _ _
  exact ⟨⟨rfl, _, exec_popPair_popped s .bc, hhi, hlo, rfl, popped_frame s .bc⟩,
    ⟨rfl, _, exec_popPair_popped s .de, hhi, hlo, rfl, popped_frame s .de⟩,
    ⟨rfl, _, exec_popPair_popped s .hl, hhi, hlo, rfl, popped_frame s .hl⟩,
    ⟨rfl, _, exec_popPair_popped s .af, hhi, congrArg (· &&& 0xF0) hlo, popped_frame s .af⟩⟩

/-! ### A pop after a push -/

/-- The two bytes of a push are the word on the stack: they went to two different bytes of plain RAM. -/
theorem TwoStores.stackTop_eq {s t : State} {w : Word}
    (h : TwoStores s t (s.cpu.sp - 1) (hiByte w) (s.cpu.sp - 2) (loByte w)) (hsp : t.cpu.sp = s.cpu.sp - 2)
    (hcart : s.cart.Inv) (hhigh : s.plainRam (s.cpu.sp - 1)) (hlow : s.plainRam (s.cpu.sp - 2)) :
    t.stackTop = w := by
  have hbelow : s.cpu.sp - 1 - 1 = s.cpu.sp - 2 := by bv_omega
  have habove : t.cpu.sp + 1 = s.cpu.sp - 1 := by rw [hsp]; bv_omega
  have hdistinct : s.place (s.cpu.sp - 1) ≠ s.place (s.cpu.sp - 2) := hbelow ▸ place_pred_ne hcart hhigh
  rw [State.stackTop, habove, hsp, h.storedFirst hhigh hlow hdistinct, h.storedSecond hhigh hlow,
    joinBytes_hiByte_loByte]

theorem popped_stackPair (s : State) (p : StackPair) :
    (s.popped p).stackPair p = if p = .af then s.stackTop &&& 0xFFF0 else s.stackTop := by
  rw [State.popped, returning_stackPair, stackPair_putStackPair_same]

/-- Settles O7: the push left the word at the top of the stack, where the pop takes it from. -/
theorem pushThenPopIsIdentity : Obligations.PushThenPopIsIdentity := by
  intro s p q hcart hhigh hlow
  obtain ⟨hstores, hsp, -⟩ := pushed_spec s p
  refine ⟨_, exec_pushPair_pushed s p, _, exec_popPair_popped _ q, ?value, ?sp⟩
  case value => rw [popped_stackPair, hstores.stackTop_eq hsp hcart hhigh hlow]
  case sp =>
    obtain ⟨hpop, -⟩ := popped_frame (s.pushed p) q
    rw [hpop, hsp, BitVec.sub_add_cancel]

end Sys2Proof.Machine

/-! 8-bit arithmetic and logic (42_alu8.md): an instruction that writes F with a register, with a byte or alone, the
three operand forms of the accumulator operations, and decimal arithmetic by an addition or subtraction and DAA. -/

namespace Sys2Proof.Machine

/-! ### F written with a register, with a byte, or alone -/

theorem Completes.imp {o : StepOutcome} {P Q : State → Prop} (h : Completes o P) (hPQ : ∀ t, P t → Q t) :
    Completes o Q := by
  obtain ⟨t, ho, ht⟩ := h
  exact ⟨t, ho, hPQ t ht⟩

section
variable (s : State) (v f : Byte) (len ticks : Nat)

theorem completes_putRegF (r : Reg8) : Completes ((((s.advance len).putReg r v).putF f).done ticks) fun t =>
    t.reg r = v ∧ t.cpu.f = f &&& 0xF0 ∧ SameRegsBut s t [r] ∧ SameOutsideCpu s t ∧
      Ends t (s.cpu.pc + BitVec.ofNat 16 len) ticks :=
  ⟨_, done_eq _ _, by simp, by simp, by simp, by simp [sameOutside_iff], by simp [Ends]⟩

theorem completes_putF : Completes (((s.advance len).putF f).done ticks) fun t =>
    t.cpu.f = f &&& 0xF0 ∧ SameRegsBut s t [] ∧ SameOutsideCpu s t ∧
      Ends t (s.cpu.pc + BitVec.ofNat 16 len) ticks :=
  ⟨_, done_eq _ _, by simp, by simp, by simp [sameOutside_iff], by simp [Ends]⟩

theorem completes_busWriteF (a : Word) : Completes ((((s.advance len).busWrite a v).putF f).done ticks) fun t =>
    OneStore s t a v ∧ t.cpu.f = f &&& 0xF0 ∧ SameRegsBut s t [] ∧
      Ends t (s.cpu.pc + BitVec.ofNat 16 len) ticks :=
  ⟨_, done_eq _ _, .of_same (by simp [sameOutside_iff]), by simp, by simp, by simp [Ends]⟩

end

/-! ### The accumulator operations in their three operand forms -/

section
variable (k : AluOp) (s : State)

theorem encode_aluReg (src : Reg8) :
    encode (Instr.aluReg k src) = [BitVec.ofNat 8 (0x80 + 8 * codeOfAlu k + codeOfReg src)] := by
  cases k <;> cases src <;> rfl

theorem encode_aluHl : encode (Instr.aluHl k) = [BitVec.ofNat 8 (0x86 + 8 * codeOfAlu k)] := by
  cases k <;> rfl

theorem encode_aluImm (n : Byte) : encode (Instr.aluImm k n) = [BitVec.ofNat 8 (0xC6 + 8 * codeOfAlu k), n] := by
  cases k <;> rfl

theorem aluOnReg_eq (src : Reg8) : aluOnReg k src s = ((s.advance 1).accumulate k (s.reg src)).done 4 := by
  rw [aluOnReg, advance_reg]

theorem aluOnHl_eq : aluOnHl k s = ((s.advance 1).accumulate k (s.busRead s.hl)).done 8 := by
  rw [aluOnHl, State.atHl, busRead_advance, advance_hl]

/-- What every form of the operation `k` does: `R` holds of the operand, the A it leaves and the F it leaves, and
the registers outside `ds` and everything outside the CPU are unchanged. -/
def AluForms (ds : List Reg8) (R : Byte → Byte → Byte → Prop) : Prop :=
  (∀ src : Reg8, encode (Instr.aluReg k src) = [BitVec.ofNat 8 (0x80 + 8 * codeOfAlu k + codeOfReg src)] ∧
   Completes (exec (Instr.aluReg k src) s) fun t =>
    R (s.reg src) t.cpu.a t.cpu.f ∧ SameRegsBut s t ds ∧ SameOutsideCpu s t ∧ Ends t (s.cpu.pc + 1) 4) ∧
  (encode (Instr.aluHl k) = [BitVec.ofNat 8 (0x86 + 8 * codeOfAlu k)] ∧
   Completes (exec (Instr.aluHl k) s) fun t =>
    R (s.busRead (joinBytes s.cpu.h s.cpu.l)) t.cpu.a t.cpu.f ∧ SameRegsBut s t ds ∧ SameOutsideCpu s t ∧
      Ends t (s.cpu.pc + 1) 8) ∧
  (∀ n : Byte, encode (Instr.aluImm k n) = [BitVec.ofNat 8 (0xC6 + 8 * codeOfAlu k), n] ∧
   Completes (exec (Instr.aluImm k n) s) fun t =>
    R n t.cpu.a t.cpu.f ∧ SameRegsBut s t ds ∧ SameOutsideCpu s t ∧ Ends t (s.cpu.pc + 2) 8)

end

section
variable {k : AluOp} {s : State} {ds : List Reg8} {R : Byte → Byte → Byte → Prop}

/-- The forms differ in the operand, the length and the ticks only. -/
theorem aluForms_of_accumulate (h : ∀ (v : Byte) (len ticks : Nat),
      Completes (((s.advance len).accumulate k v).done ticks) fun t =>
        R v t.cpu.a t.cpu.f ∧ SameRegsBut s t ds ∧ SameOutsideCpu s t ∧
          Ends t (s.cpu.pc + BitVec.ofNat 16 len) ticks) :
    AluForms k s ds R := by
  refine ⟨fun src => ⟨encode_aluReg k src, ?reg⟩, ⟨encode_aluHl k, ?hl⟩, fun n => ⟨encode_aluImm k n, ?imm⟩⟩
  case reg => rw [exec_aluReg, aluOnReg_eq]; exact h _ 1 4
  case hl => rw [exec_aluHl, aluOnHl_eq]; exact h _ 1 8
  case imm => rw [exec_aluImm]; exact h n 2 8

/-- An operation leaves in A and F what `aluResult` gives. -/
theorem aluForms_of_result (h : ∀ v, R v (aluResult k s.cpu.a v (s.cpu.f.getLsbD 4)).1
    ((aluResult k s.cpu.a v (s.cpu.f.getLsbD 4)).2 &&& 0xF0)) : AluForms k s [.a] R :=
  aluForms_of_accumulate fun v len ticks =>
    (completes_putRegF s _ _ len ticks .a).imp fun t ⟨(ha : t.cpu.a = _), hf, hframe⟩ => by
      rw [ha, hf]
      exact ⟨h v, hframe⟩

theorem aluResult_addition (hk : k = .add ∨ k = .adc) (a v : Byte) (cy : Bool) :
    aluResult k a v cy = add8 a v (cy && decide (k = .adc)) := by
  rcases hk with rfl | rfl <;> simp [aluResult]

theorem aluResult_subtraction (hk : k = .sub ∨ k = .sbc) (a v : Byte) (cy : Bool) :
    aluResult k a v cy = sub8 a v (cy && decide (k = .sbc)) := by
  rcases hk with rfl | rfl <;> simp [aluResult]

end

/-- CP writes A with itself. -/
theorem accumulate_cp (s : State) (v : Byte) : s.accumulate .cp v = s.putF (sub8 s.cpu.a v false).2 := rfl

/-- Settles O8: ADD and ADC are `Add8` on the operand, ADC alone with the old carry. -/
theorem additionsResultAndFlags : Obligations.AdditionsResultAndFlags := by
  rintro s _ rfl k hk
  refine aluForms_of_result (R := fun v => AddResult s.cpu.a v (s.cpu.f.getLsbD 4 && decide (k = .adc))) fun v => ?_
  rw [aluResult_addition hk]
  exact add8_spec s.cpu.a v _

/-- Settles O9: SUB and SBC are `Sub8` on the operand, SBC alone with the old carry. -/
theorem subtractionsResultAndFlags : Obligations.SubtractionsResultAndFlags := by
  rintro s _ rfl k hk
  refine aluForms_of_result (R := fun v => SubResult s.cpu.a v (s.cpu.f.getLsbD 4 && decide (k = .sbc))) fun v => ?_
  rw [aluResult_subtraction hk]
  exact sub8_spec s.cpu.a v _

/-- Settles O10: what `logic_spec` says of the result and the flags holds of every form. -/
theorem logicResultAndFlags : Obligations.LogicResultAndFlags := by
  intro s k hk
  have hforms : AluForms k s [.a] fun v x f =>
      LogicResult k s.cpu.a v x ∧ FlagsAre f (x == 0) false (decide (k = .and)) false :=
    aluForms_of_result fun v => logic_spec hk s.cpu.a v _
  simpa only [AluForms, and_assoc] using hforms

/-- Settles O11: the discarded difference is the one `Sub8` gives. -/
theorem comparesOnlyWriteFlags : Obligations.ComparesOnlyWriteFlags := by
  intro s
  have hforms : AluForms .cp s [] fun v _ f => ∃ x, SubResult s.cpu.a v false x f :=
    aluForms_of_accumulate fun v len ticks => by
      rw [accumulate_cp, advance_reg_a]
      exact (completes_putF s _ len ticks).imp fun t ⟨hf, hframe⟩ => ⟨⟨_, hf ▸ sub8_spec s.cpu.a v false⟩, hframe⟩
  exact hforms

/-! ### INC and DEC -/

section
variable (s : State)

theorem encode_incReg (r : Reg8) : encode (Instr.incReg r) = [BitVec.ofNat 8 (0x04 + 8 * codeOfReg r)] := by
  cases r <;> rfl

theorem encode_decReg (r : Reg8) : encode (Instr.decReg r) = [BitVec.ofNat 8 (0x05 + 8 * codeOfReg r)] := by
  cases r <;> rfl

theorem exec_incIndHl : exec .incIndHl s = (((s.advance 1).busWrite s.hl (s.busRead s.hl + 1)).putF
    (incResult (s.busRead s.hl) s.cpu.f).2).done 12 := by
  change execIncIndHl s = _
  rw [execIncIndHl, State.storeHl, State.atHl, busRead_advance, advance_hl, advance_f, incResult]

theorem exec_decIndHl : exec .decIndHl s = (((s.advance 1).busWrite s.hl (s.busRead s.hl - 1)).putF
    (decResult (s.busRead s.hl) s.cpu.f).2).done 12 := by
  change execDecIndHl s = _
  rw [execDecIndHl, State.storeHl, State.atHl, busRead_advance, advance_hl, advance_f, decResult]

end

/-- Settles O12: `INC` and `DEC` of a register, and of the byte at HL, write what `incResult` and `decResult` give. -/
theorem incrementsAndDecrementsKeepCarry : Obligations.IncrementsAndDecrementsKeepCarry := by
  intro s
  refine ⟨fun r => ⟨encode_incReg r, ?inc⟩, fun r => ⟨encode_decReg r, ?dec⟩, ?atHl⟩
  case inc =>
    obtain ⟨hsum, hflags⟩ := incResult_spec (s.reg r) s.cpu.f
    rw [exec_incReg, incReg, advance_reg]
    refine (completes_putRegF s _ _ 1 4 r).imp fun t ⟨hv, hf, hframe⟩ => ?_
    rw [hv, hf]
    exact ⟨hsum, hflags, hframe⟩
  case dec =>
    obtain ⟨hdiff, hflags⟩ := decResult_spec (s.reg r) s.cpu.f
    rw [exec_decReg, decReg, advance_reg]
    refine (completes_putRegF s _ _ 1 4 r).imp fun t ⟨hv, hf, hframe⟩ => ?_
    rw [hv, hf]
    exact ⟨hdiff, hflags, hframe⟩
  case atHl =>
    rintro _ _ rfl rfl
    obtain ⟨-, hinc⟩ := incResult_spec (s.busRead s.hl) s.cpu.f
    obtain ⟨-, hdec⟩ := decResult_spec (s.busRead s.hl) s.cpu.f
    rw [exec_incIndHl, exec_decIndHl]
    refine ⟨⟨rfl, (completes_busWriteF s _ _ 1 12 s.hl).imp fun t ⟨hstore, hf, hframe⟩ => ⟨hstore, ?_, hframe⟩⟩,
      ⟨rfl, (completes_busWriteF s _ _ 1 12 s.hl).imp fun t ⟨hstore, hf, hframe⟩ => ⟨hstore, ?_, hframe⟩⟩⟩
    · rw [hf]
      exact hinc
    · rw [hf]
      exact hdec

/-! ### CPL, SCF and CCF -/

theorem toNat_xor_ff (v : Byte) : (v ^^^ 0xFF).toNat = 255 - v.toNat :=
  calc (v ^^^ 0xFF).toNat
      = (~~~v).toNat := congrArg BitVec.toNat BitVec.xor_allOnes
    _ = 255 - v.toNat := BitVec.toNat_not

/-- Settles O15: each packs the flags it keeps with the ones it writes. -/
theorem complementAndCarryInstructions : Obligations.ComplementAndCarryInstructions := by
  intro s
  refine ⟨⟨rfl, ?cpl⟩, ⟨rfl, ?scf⟩, ⟨rfl, ?ccf⟩⟩
  case cpl =>
    refine (completes_putRegF s _ _ 1 4 .a).imp fun t ⟨(ha : t.cpu.a = s.cpu.a ^^^ 0xFF), hf, hframe⟩ => ?_
    rw [ha, hf]
    exact ⟨toNat_xor_ff s.cpu.a, flagsAre_mask_packFlags _ _ _ _, hframe⟩
  case scf | ccf =>
    refine (completes_putF s _ 1 4).imp fun t ⟨hf, hframe⟩ => ?_
    rw [hf]
    exact ⟨flagsAre_mask_packFlags _ _ _ _, hframe⟩

/-! ### DAA -/

/-- Settles O13: DAA leaves what `daaResult` gives. -/
theorem decimalAdjustResultAndFlags : Obligations.DecimalAdjustResultAndFlags := by
  rintro s _ lowAdj highAdj n h c rfl hn hh hc hlow hhigh
  obtain ⟨hresult, hflags⟩ := daaResult_spec s.cpu.a s.cpu.f hn hh hc hlow hhigh
  refine ⟨rfl, (completes_putRegF s _ _ 1 4 .a).imp fun t ⟨(ha : t.cpu.a = _), hf, hframe⟩ => ?_⟩
  rw [ha, hf]
  exact ⟨hresult, hflags, hframe⟩

/-! ### Decimal arithmetic

A number below 100 is `10 * h + l`, and its byte is `16 * h + l`. An addition or subtraction carries `k` out of the
low digit and `m` out of the high one, and leaves the digits `r` and `q`; DAA adjusts a digit exactly where there is
a carry. -/

theorem exists_digits {n : Nat} (hn : n < 100) : ∃ h l, h < 10 ∧ l < 10 ∧ n = 10 * h + l :=
  ⟨n / 10, n % 10, by omega, by omega, by omega⟩

/-- Two digits and a carry add to a digit and a carry. -/
theorem exists_carry {d e b : Nat} (hd : d < 10) (he : e < 10) (hb : b ≤ 1) :
    ∃ k r, k ≤ 1 ∧ r < 10 ∧ d + e + b = 10 * k + r :=
  ⟨(d + e + b) / 10, (d + e + b) % 10, by omega, by omega, by omega⟩

/-- A digit and a borrow subtracted from a digit leave a digit and a borrow. -/
theorem exists_borrow {d e b : Nat} (hd : d < 10) (he : e < 10) (hb : b ≤ 1) :
    ∃ k r, k ≤ 1 ∧ r < 10 ∧ d + 10 * k = e + b + r := by
  by_cases h : d < e + b
  · exact ⟨1, d + 10 - (e + b), by omega, by omega, by omega⟩
  · exact ⟨0, d - (e + b), by omega, by omega, by omega⟩

theorem toNat_packedBcd_digits {h l : Nat} (hh : h < 10) (hl : l < 10) :
    (packedBcd (10 * h + l)).toNat = 16 * h + l := by
  rw [toNat_packedBcd (by omega)]
  omega

theorem toNat_packedBcd_mod {h l : Nat} (hh : h < 10) (hl : l < 10) :
    (packedBcd (10 * h + l)).toNat % 16 = l := by
  rw [toNat_packedBcd_digits hh hl]
  omega

/-- DAA leaves the digits `q` and `r` where its two adjustments are those of the carries `k` and `m`. -/
theorem completes_daa_of_digits {s : State} {k m q r : Nat} (hk : k ≤ 1) (hm : m ≤ 1) (hq : q < 10) (hr : r < 10)
    (hlow : (s.cpu.f.getLsbD 5 = true ∨ (s.cpu.f.getLsbD 6 = false ∧ 9 < s.cpu.a.toNat % 16)) ↔ k = 1)
    (hhigh : (s.cpu.f.getLsbD 4 = true ∨ (s.cpu.f.getLsbD 6 = false ∧ 0x99 < s.cpu.a.toNat)) ↔ m = 1)
    (hdigits : (if s.cpu.f.getLsbD 6 then s.cpu.a.toNat + 256 - (6 * k + 0x60 * m)
      else s.cpu.a.toNat + (6 * k + 0x60 * m)) % 256 = 16 * q + r) :
    Completes (exec .daa s) fun u => u.cpu.a = packedBcd (10 * q + r) ∧ u.cpu.f.getLsbD 4 = decide (m = 1) := by
  obtain ⟨-, hdaa⟩ := decimalAdjustResultAndFlags s _ (6 * k) (0x60 * m) _ _ _ rfl rfl rfl rfl
    (by simp only [hlow]; split <;> omega) (by simp only [hhigh]; split <;> omega)
  refine hdaa.imp fun u ⟨hu, ⟨_, _, _, hcarry, _⟩, _⟩ => ⟨BitVec.eq_of_toNat_eq ?_, ?_⟩
  · rw [hu, hdigits, toNat_packedBcd_digits hq hr]
  · rw [hcarry, decide_eq_decide]
    omega

section
variable {s : State} {k m q r : Nat}

/-- After a binary sum, a carry out of a hexadecimal digit or a digit above 9 is a decimal carry. -/
theorem completes_daa_of_sum {sum : Nat} (hk : k ≤ 1) (hm : m ≤ 1) (hq : q < 10) (hr : r < 10)
    (hsum : sum + 6 * k = 160 * m + 16 * q + r) (ha : s.cpu.a.toNat = sum % 256) (hn : s.cpu.f.getLsbD 6 = false)
    (hh : s.cpu.f.getLsbD 5 = decide (0x0F < 10 * k + r)) (hc : s.cpu.f.getLsbD 4 = decide (0xFF < sum)) :
    Completes (exec .daa s) fun u => u.cpu.a = packedBcd (10 * q + r) ∧ u.cpu.f.getLsbD 4 = decide (m = 1) := by
  refine completes_daa_of_digits hk hm hq hr ?low ?high ?digits
  case low =>
    simp only [hh, hn, ha, decide_eq_true_iff, true_and]
    omega
  case high =>
    simp only [hc, hn, ha, decide_eq_true_iff, true_and]
    omega
  case digits =>
    simp only [hn, ha, Bool.false_eq_true, if_false]
    omega

/-- After a binary difference, the borrow out of a hexadecimal digit is the decimal borrow. -/
theorem completes_daa_of_difference (hk : k ≤ 1) (hm : m ≤ 1) (hq : q < 10) (hr : r < 10)
    (ha : (s.cpu.a.toNat : Int) = (16 * q + r + 6 * k - 160 * m) % 256) (hn : s.cpu.f.getLsbD 6 = true)
    (hh : s.cpu.f.getLsbD 5 = decide (k = 1)) (hc : s.cpu.f.getLsbD 4 = decide (m = 1)) :
    Completes (exec .daa s) fun u => u.cpu.a = packedBcd (10 * q + r) ∧ u.cpu.f.getLsbD 4 = decide (m = 1) := by
  refine completes_daa_of_digits hk hm hq hr ?low ?high ?digits
  case low => simp only [hh, hn, decide_eq_true_iff, Bool.true_eq_false, false_and, or_false]
  case high => simp only [hc, hn, decide_eq_true_iff, Bool.true_eq_false, false_and, or_false]
  case digits =>
    simp only [hn, if_true]
    omega

end

section
variable {s : State} {x y : Nat} {c : Bool}

theorem completes_daa_of_addResult (hx : x < 100) (hy : y < 100)
    (h : AddResult (packedBcd x) (packedBcd y) c s.cpu.a s.cpu.f) : Completes (exec .daa s) fun u =>
      u.cpu.a = packedBcd ((x + y + c.toNat) % 100) ∧ u.cpu.f.getLsbD 4 = decide (100 ≤ x + y + c.toNat) := by
  obtain ⟨x1, x0, hx1, hx0, rfl⟩ := exists_digits hx
  obtain ⟨y1, y0, hy1, hy0, rfl⟩ := exists_digits hy
  obtain ⟨k, r, hk, hr, hlow⟩ := exists_carry hx0 hy0 (Bool.toNat_le c)
  obtain ⟨m, q, hm, hq, hhigh⟩ := exists_carry hx1 hy1 hk
  obtain ⟨ha, -, hn, hh, hc, -⟩ := h
  have hbinary : 16 * x1 + x0 + (16 * y1 + y0) + c.toNat + 6 * k = 160 * m + 16 * q + r := by omega
  have hdecimal : 10 * x1 + x0 + (10 * y1 + y0) + c.toNat = 100 * m + (10 * q + r) := by omega
  have hresult : (100 * m + (10 * q + r)) % 100 = 10 * q + r := by omega
  have hcarry : decide (100 ≤ 100 * m + (10 * q + r)) = decide (m = 1) := by rw [decide_eq_decide]; omega
  rw [toNat_packedBcd_mod hx1 hx0, toNat_packedBcd_mod hy1 hy0, hlow] at hh
  rw [toNat_packedBcd_digits hx1 hx0, toNat_packedBcd_digits hy1 hy0] at ha hc
  rw [hdecimal, hresult, hcarry]
  exact completes_daa_of_sum hk hm hq hr hbinary ha hn hh hc

theorem completes_daa_of_subResult (hx : x < 100) (hy : y < 100)
    (h : SubResult (packedBcd x) (packedBcd y) c s.cpu.a s.cpu.f) : Completes (exec .daa s) fun u =>
      u.cpu.a = packedBcd ((x + 200 - (y + c.toNat)) % 100) ∧ u.cpu.f.getLsbD 4 = decide (x < y + c.toNat) := by
  obtain ⟨x1, x0, hx1, hx0, rfl⟩ := exists_digits hx
  obtain ⟨y1, y0, hy1, hy0, rfl⟩ := exists_digits hy
  obtain ⟨k, r, hk, hr, hlow⟩ := exists_borrow hx0 hy0 (Bool.toNat_le c)
  obtain ⟨m, q, hm, hq, hhigh⟩ := exists_borrow hx1 hy1 hk
  obtain ⟨ha, -, hn, hh, hc, -⟩ := h
  rw [toNat_packedBcd_mod hx1 hx0, toNat_packedBcd_mod hy1 hy0] at hh
  rw [toNat_packedBcd_digits hx1 hx0, toNat_packedBcd_digits hy1 hy0] at ha hc
  have hlowBorrow : decide (x0 < y0 + c.toNat) = decide (k = 1) := by rw [decide_eq_decide]; omega
  have hhighBorrow : decide (16 * x1 + x0 < 16 * y1 + y0 + c.toNat) = decide (m = 1) := by
    rw [decide_eq_decide]; omega
  have hborrow : decide (10 * x1 + x0 < 10 * y1 + y0 + c.toNat) = decide (m = 1) := by rw [decide_eq_decide]; omega
  have hbinary : ((16 * x1 + x0 : Nat) : Int) - (16 * y1 + y0 : Nat) - c.toNat = 16 * q + r + 6 * k - 160 * m := by
    omega
  have hdecimal : 10 * x1 + x0 + 200 - (10 * y1 + y0 + c.toNat) = 100 * (2 - m) + (10 * q + r) := by omega
  have hresult : (100 * (2 - m) + (10 * q + r)) % 100 = 10 * q + r := by omega
  rw [hdecimal, hresult, hborrow]
  exact completes_daa_of_difference hk hm hq hr (hbinary ▸ ha) hn (hh.trans hlowBorrow) (hc.trans hhighBorrow)

theorem completes_addition_daa {k : AluOp} (hk : k = .add ∨ k = .adc) (hx : x < 100) (hy : y < 100)
    (ha : s.cpu.a = packedBcd x) (hc : c = (s.cpu.f.getLsbD 4 && decide (k = .adc))) :
    Completes (exec (Instr.aluImm k (packedBcd y)) s) fun t => Completes (exec .daa t) fun u =>
      u.cpu.a = packedBcd ((x + y + c.toNat) % 100) ∧ u.cpu.f.getLsbD 4 = decide (100 ≤ x + y + c.toNat) := by
  obtain ⟨-, -, himm⟩ := additionsResultAndFlags s _ rfl k hk
  obtain ⟨-, hbinary⟩ := himm (packedBcd y)
  rw [ha, ← hc] at hbinary
  exact hbinary.imp fun t ⟨h, _⟩ => completes_daa_of_addResult hx hy h

theorem completes_subtraction_daa {k : AluOp} (hk : k = .sub ∨ k = .sbc) (hx : x < 100) (hy : y < 100)
    (ha : s.cpu.a = packedBcd x) (hc : c = (s.cpu.f.getLsbD 4 && decide (k = .sbc))) :
    Completes (exec (Instr.aluImm k (packedBcd y)) s) fun t => Completes (exec .daa t) fun u =>
      u.cpu.a = packedBcd ((x + 200 - (y + c.toNat)) % 100) ∧ u.cpu.f.getLsbD 4 = decide (x < y + c.toNat) := by
  obtain ⟨-, -, himm⟩ := subtractionsResultAndFlags s _ rfl k hk
  obtain ⟨-, hbinary⟩ := himm (packedBcd y)
  rw [ha, ← hc] at hbinary
  exact hbinary.imp fun t ⟨h, _⟩ => completes_daa_of_subResult hx hy h

end

/-- Settles O14: the flags of the binary operation tell DAA the decimal carries; ADD and SUB take none in. -/
theorem decimalAdjustGivesDecimalArithmetic : Obligations.DecimalAdjustGivesDecimalArithmetic := by
  rintro s x y _ hx hy ha rfl
  have hsub := completes_subtraction_daa (c := false) (.inl rfl) hx hy ha (Bool.and_false _).symm
  have hmod : (x + 200 - (y + false.toNat)) % 100 = (x + 100 - y) % 100 := by rw [Bool.toNat_false]; omega
  rw [hmod] at hsub
  exact ⟨completes_addition_daa (c := false) (.inl rfl) hx hy ha (Bool.and_false _).symm,
    completes_addition_daa (.inr rfl) hx hy ha (Bool.and_true _).symm, hsub,
    completes_subtraction_daa (.inr rfl) hx hy ha (Bool.and_true _).symm⟩

end Sys2Proof.Machine

/-! The 16-bit arithmetic (43_alu16.md): a sum written to HL with its flags, a pair moved by one, and SP moved by a
displacement. -/

namespace Sys2Proof.Machine

/-! ### ADD HL,rp -/

section
variable (s : State) (p : Pair)

theorem encode_addHlPair : encode (Instr.addHlPair p) = [BitVec.ofNat 8 (0x09 + 16 * codeOfPair p)] := by
  cases p <;> rfl

/-- The sum goes to HL and its flags to F; `ADD HL,HL` reads both operands before the write. -/
theorem completes_addHlPair : Completes (addHlPair p s) fun t =>
    t.hl = s.hl + s.pair p ∧ t.cpu.f = addHlFlags s.hl (s.pair p) s.cpu.f &&& 0xF0 ∧ SameRegsBut s t [.h, .l] ∧
      SameOutsideCpu s t ∧ Ends t (s.cpu.pc + 1) 8 := by
  rw [addHlPair, advance_pair, advance_hl, advance_f]
  exact ⟨_, done_eq _ _, by simp, by simp, by simp, by simp [sameOutside_iff], by simp [Ends]⟩

end

/-! ### INC rp and DEC rp -/

/-- One less is 0xFFFF more. -/
theorem toNat_sub_one (w : Word) : (w - 1).toNat = (w.toNat + 0xFFFF) % 0x10000 :=
  (BitVec.toNat_sub w 1).trans (congrArg (· % 0x10000) (Nat.add_comm _ _))

section
variable (s : State) (p : Pair)

theorem encode_incPair : encode (Instr.incPair p) = [BitVec.ofNat 8 (0x03 + 16 * codeOfPair p)] := by
  cases p <;> rfl

theorem encode_decPair : encode (Instr.decPair p) = [BitVec.ofNat 8 (0x0B + 16 * codeOfPair p)] := by
  cases p <;> rfl

theorem incPair_eq : incPair p s = ((s.advance 1).putPair p (s.pair p + 1)).done 8 := by
  rw [incPair, advance_pair]

theorem decPair_eq : decPair p s = ((s.advance 1).putPair p (s.pair p - 1)).done 8 := by
  rw [decPair, advance_pair]

end

/-! ### ADD SP,e -/

theorem completes_addSpRel (s : State) (e : Byte) : Completes (exec (.addSpRel e) s) fun t =>
    t.cpu.sp = s.cpu.sp + sext16 e ∧ t.cpu.f = spRelFlags s.cpu.sp e &&& 0xF0 ∧ SameRegsButPair s t .sp ∧
      SameOutsideCpu s t ∧ Ends t (s.cpu.pc + 2) 16 := by
  change Completes (execAddSpRel e s) _
  rw [execAddSpRel, advance_sp]
  exact ⟨_, done_eq _ _, by simp, by simp, by simp [SameRegsButPair, SameLatches], by simp [sameOutside_iff],
    by simp [Ends]⟩

/-- Settles O16: each form writes one word, and the additions to HL and SP the flags of their sum. -/
theorem pairArithmeticResultAndFlags : Obligations.PairArithmeticResultAndFlags := by
  refine ⟨fun s p => ⟨?addHl, ⟨encode_incPair p, ?inc⟩, ⟨encode_decPair p, ?dec⟩⟩, fun s e => ⟨rfl, ?addSp⟩⟩
  case addHl =>
    rintro _ _ rfl rfl
    rw [exec_addHlPair]
    refine ⟨encode_addHlPair p, (completes_addHlPair s p).imp fun t ⟨(hsum : joinBytes _ _ = _), hf, hframe⟩ => ?_⟩
    rw [hsum, hf]
    exact ⟨BitVec.toNat_add s.hl _, flagsAre_addHlFlags s.hl _ _, hframe⟩
  case inc =>
    rw [exec_incPair, incPair_eq]
    refine (completes_putPair s _ 1 8 p).imp fun t ⟨hsum, hrest⟩ => ?_
    rw [hsum]
    exact ⟨BitVec.toNat_add _ 1, hrest⟩
  case dec =>
    rw [exec_decPair, decPair_eq]
    refine (completes_putPair s _ 1 8 p).imp fun t ⟨hdiff, hrest⟩ => ?_
    rw [hdiff]
    exact ⟨toNat_sub_one _, hrest⟩
  case addSp =>
    refine (completes_addSpRel s e).imp fun t ⟨hsp, hf, hframe⟩ => ?_
    rw [hsp, hf]
    exact ⟨toNat_add_sext16 s.cpu.sp e, flagsAre_spRelFlags _ e, hframe⟩

end Sys2Proof.Machine

/-! The rotates, shifts and bit operations (44_rotate_shift_bit.md): what a rotate gives on numbers, a byte with one
bit written, and the extended row behind the prefix byte, shape by shape. -/

namespace Sys2Proof.Machine

/-! ### The byte at HL, once `pc` has moved -/

section
variable (s : State) (n : Nat)

@[simp] theorem atHl_advance : (s.advance n).atHl = s.busRead s.hl := by
  rw [State.atHl, busRead_advance, advance_hl]

@[simp] theorem storeHl_advance (v : Byte) : (s.advance n).storeHl v = (s.advance n).busWrite s.hl v := by
  rw [State.storeHl, advance_hl]

end

/-! ### Rotates of A -/

/-- A rotate leaves the result and the carry of `rotResult` with the old carry. -/
theorem completes_rotateA (k : RotOp) (s : State) : Completes (rotateA k s) fun t =>
    t.cpu.a.toNat = (rotOnNumbers k s.cpu.a.toNat (s.cpu.f.getLsbD 4).toNat).1 ∧
      FlagsAre t.cpu.f false false false
        (decide ((rotOnNumbers k s.cpu.a.toNat (s.cpu.f.getLsbD 4).toNat).2 = 1)) ∧
      SameRegsBut s t [.a] ∧ SameOutsideCpu s t ∧ Ends t (s.cpu.pc + 1) 4 := by
  obtain ⟨hresult, hcarry⟩ := rotResult_spec k s.cpu.a (s.cpu.f.getLsbD 4)
  rw [← hresult, ← hcarry]
  refine (completes_putRegF s _ _ 1 4 .a).imp fun t ⟨(ha : t.cpu.a = _), hf, hframe⟩ => ?_
  rw [ha, hf]
  exact ⟨rfl, flagsAre_rotAFlags _, hframe⟩

/-- Settles O17: each of the four is `rotateA` with its operation. -/
theorem accumulatorRotatesResultAndFlags : Obligations.AccumulatorRotatesResultAndFlags := by
  rintro s _ rfl i k op hmem
  simp only [List.mem_cons, Prod.mk.injEq, List.not_mem_nil, or_false] at hmem
  obtain ⟨rfl, rfl, rfl⟩ | ⟨rfl, rfl, rfl⟩ | ⟨rfl, rfl, rfl⟩ | ⟨rfl, rfl, rfl⟩ := hmem
  · exact ⟨rfl, completes_rotateA .rlc s⟩
  · exact ⟨rfl, completes_rotateA .rrc s⟩
  · exact ⟨rfl, completes_rotateA .rl s⟩
  · exact ⟨rfl, completes_rotateA .rr s⟩

/-! ### Extended rotates and shifts -/

theorem encode_rotReg (k : RotOp) (r : Reg8) :
    encode (Instr.rotReg k r) = [0xCB, BitVec.ofNat 8 (8 * codeOfRot k + codeOfReg r)] := by
  cases k <;> cases r <;> rfl

theorem encode_rotHl (k : RotOp) :
    encode (Instr.rotHl k) = [0xCB, BitVec.ofNat 8 (0x06 + 8 * codeOfRot k)] := by
  cases k <;> rfl

theorem flagsAre_rotFlags_rotResult (k : RotOp) (v : Byte) (cy : Bool) :
    FlagsAre (rotFlags (rotResult k v cy) &&& 0xF0) ((rotResult k v cy).1 == 0) false false
      (decide ((rotOnNumbers k v.toNat cy.toNat).2 = 1)) :=
  (rotResult_spec k v cy).2 ▸ flagsAre_rotFlags _

section
variable (k : RotOp) (s : State)

theorem completes_rotReg (r : Reg8) : Completes (exec (Instr.rotReg k r) s) fun t =>
    t.reg r = (rotResult k (s.reg r) (s.cpu.f.getLsbD 4)).1 ∧
      t.cpu.f = rotFlags (rotResult k (s.reg r) (s.cpu.f.getLsbD 4)) &&& 0xF0 ∧
      SameRegsBut s t [r] ∧ SameOutsideCpu s t ∧ Ends t (s.cpu.pc + 2) 8 := by
  rw [exec_rotReg, rotOnReg, advance_reg]
  exact completes_putRegF s _ _ 2 8 r

theorem completes_rotHl : Completes (exec (Instr.rotHl k) s) fun t =>
    OneStore s t s.hl (rotResult k (s.busRead s.hl) (s.cpu.f.getLsbD 4)).1 ∧
      t.cpu.f = rotFlags (rotResult k (s.busRead s.hl) (s.cpu.f.getLsbD 4)) &&& 0xF0 ∧
      SameRegsBut s t [] ∧ Ends t (s.cpu.pc + 2) 16 := by
  rw [exec_rotHl, rotOnHl, atHl_advance, storeHl_advance]
  exact completes_busWriteF s _ _ 2 16 s.hl

end

/-- Settles O18: the register holds the result of `rotResult`, which on numbers is that of the rules. -/
theorem registerRotatesResultAndFlags : Obligations.RegisterRotatesResultAndFlags := by
  rintro s k r _ rfl
  refine ⟨encode_rotReg k r, (completes_rotReg k s r).imp fun t ⟨hv, hf, hframe⟩ => ?_⟩
  rw [hv, hf]
  exact ⟨(rotResult_spec k _ _).1, flagsAre_rotFlags_rotResult k _ _, hframe⟩

/-- Settles O19: the byte with the value the rules give is the one `rotResult` gives. -/
theorem memoryRotatesResultAndFlags : Obligations.MemoryRotatesResultAndFlags := by
  rintro s k _ rfl _ _ res rfl rfl hres
  obtain rfl : res = (rotResult k (s.busRead s.hl) (s.cpu.f.getLsbD 4)).1 :=
    BitVec.eq_of_toNat_eq (hres.trans (rotResult_spec k _ _).1.symm)
  refine ⟨encode_rotHl k, (completes_rotHl k s).imp fun t ⟨hstore, hf, hframe⟩ => ⟨hstore, ?_, hframe⟩⟩
  rw [hf]
  exact flagsAre_rotFlags_rotResult k _ _

/-! ### Bit tests -/

section
variable (b : Fin 8)

theorem encode_bitReg (r : Reg8) :
    encode (Instr.bitReg b r) = [0xCB, BitVec.ofNat 8 (0x40 + 8 * b.val + codeOfReg r)] := by
  cases r <;> fin_cases b <;> rfl

theorem encode_bitHl : encode (Instr.bitHl b) = [0xCB, BitVec.ofNat 8 (0x46 + 8 * b.val)] := by
  fin_cases b <;> rfl

variable (s : State)

/-- A bit test of the operand `v` writes the flags and nothing else. -/
theorem completes_bitTest (v : Byte) (ticks : Nat) :
    Completes (((s.advance 2).putF (bitFlags b v s.cpu.f)).done ticks) fun t =>
      FlagsAre t.cpu.f (decide (v.getLsbD b.val = false)) false true (s.cpu.f.getLsbD 4) ∧
        SameRegsBut s t [] ∧ SameOutsideCpu s t ∧ Ends t (s.cpu.pc + 2) ticks :=
  (completes_putF s _ 2 ticks).imp fun _ ⟨hf, hframe⟩ => ⟨hf ▸ flagsAre_bitFlags b v s.cpu.f, hframe⟩

theorem completes_bitReg (r : Reg8) : Completes (exec (Instr.bitReg b r) s) fun t =>
    FlagsAre t.cpu.f (decide ((s.reg r).getLsbD b.val = false)) false true (s.cpu.f.getLsbD 4) ∧
      SameRegsBut s t [] ∧ SameOutsideCpu s t ∧ Ends t (s.cpu.pc + 2) 8 := by
  rw [exec_bitReg, bitOnReg, advance_reg]
  exact completes_bitTest b s _ 8

theorem completes_bitHl : Completes (exec (Instr.bitHl b) s) fun t =>
    FlagsAre t.cpu.f (decide ((s.busRead s.hl).getLsbD b.val = false)) false true (s.cpu.f.getLsbD 4) ∧
      SameRegsBut s t [] ∧ SameOutsideCpu s t ∧ Ends t (s.cpu.pc + 2) 12 := by
  rw [exec_bitHl, bitOnHl, atHl_advance]
  exact completes_bitTest b s _ 12

end

/-- Settles O20: both operand forms write F alone. -/
theorem bitTestsOnlyWriteFlags : Obligations.BitTestsOnlyWriteFlags := fun s b =>
  ⟨fun r => ⟨encode_bitReg b r, completes_bitReg b s r⟩, encode_bitHl b, completes_bitHl b s⟩

/-! ### One bit written -/

/-- The byte with bit `b` written: `SET` writes true and `RES` false. -/
def withBit (b : Fin 8) (value : Bool) (v : Byte) : Byte := if value then raiseBit b v else clearBit b v

section
variable (b : Fin 8) (value : Bool)

theorem getLsbD_withBit (v : Byte) {i : Nat} (hi : i < 8) :
    (withBit b value v).getLsbD i = if i = b.val then value else v.getLsbD i := by
  cases value
  · exact clearBit_spec b v i hi
  · exact raiseBit_spec b v i hi

theorem encode_writeBitReg (r : Reg8) : encode (if value then Instr.setReg b r else Instr.resReg b r) =
    [0xCB, BitVec.ofNat 8 ((if value then 0xC0 else 0x80) + 8 * b.val + codeOfReg r)] := by
  cases value <;> cases r <;> fin_cases b <;> rfl

theorem encode_writeBitHl : encode (if value then Instr.setHl b else Instr.resHl b) =
    [0xCB, BitVec.ofNat 8 ((if value then 0xC6 else 0x86) + 8 * b.val)] := by
  cases value <;> fin_cases b <;> rfl

variable (s : State)

theorem exec_writeBitReg (r : Reg8) : exec (if value then Instr.setReg b r else Instr.resReg b r) s =
    ((s.advance 2).putReg r (withBit b value (s.reg r))).done 8 := by
  rw [← advance_reg s 2]
  cases value
  · exact exec_resReg b r s
  · exact exec_setReg b r s

theorem exec_writeBitHl : exec (if value then Instr.setHl b else Instr.resHl b) s =
    ((s.advance 2).busWrite s.hl (withBit b value (s.busRead s.hl))).done 16 := by
  rw [← storeHl_advance, ← atHl_advance s 2]
  cases value
  · exact exec_resHl b s
  · exact exec_setHl b s

theorem completes_writeBitReg (r : Reg8) :
    Completes (exec (if value then Instr.setReg b r else Instr.resReg b r) s) fun t =>
      t.reg r = withBit b value (s.reg r) ∧ t.cpu.f = s.cpu.f ∧ SameRegsBut s t [r] ∧ SameOutsideCpu s t ∧
        Ends t (s.cpu.pc + 2) 8 := by
  rw [exec_writeBitReg]
  exact completes_putReg s _ 2 8 r

theorem completes_writeBitHl : Completes (exec (if value then Instr.setHl b else Instr.resHl b) s) fun t =>
    OneStore s t s.hl (withBit b value (s.busRead s.hl)) ∧ t.cpu.f = s.cpu.f ∧ SameRegsBut s t [] ∧
      Ends t (s.cpu.pc + 2) 16 := by
  rw [exec_writeBitHl]
  exact completes_busWrite s s.hl _ 2 16

end

/-- Settles O21: both forms write `withBit`, the one byte with these bits. -/
theorem bitWritesChangeOneBit : Obligations.BitWritesChangeOneBit := by
  refine fun s b value => ⟨fun r => ⟨encode_writeBitReg b value r, ?reg⟩, ?atHl⟩
  case reg =>
    refine (completes_writeBitReg b value s r).imp fun t ⟨hv, hrest⟩ => ⟨fun i hi => ?_, hrest⟩
    rw [hv, getLsbD_withBit b value _ hi]
  case atHl =>
    rintro _ _ res rfl rfl hres
    obtain rfl : res = withBit b value (s.busRead s.hl) :=
      BitVec.eq_of_getLsbD_eq fun i hi => (hres i hi).trans (getLsbD_withBit b value _ hi).symm
    exact ⟨encode_writeBitHl b value, completes_writeBitHl b value s⟩

/-! ### The extended row behind the prefix byte -/

/-- The extended table and its meanings have the same eight shapes. -/
theorem exec_decodeExtended (op2 : Byte) (s : State) : exec (decodeExtended op2) s = extendedEntry op2 s := by
  unfold decodeExtended extendedEntry
  generalize (fieldX op2).toNat = x
  generalize Reg8.ofCode (fieldZ op2) = operand
  match x, operand with
  | 0, some r => exact exec_rotReg _ r s
  | 0, none => exact exec_rotHl _ s
  | 1, some r => exact exec_bitReg _ r s
  | 1, none => exact exec_bitHl _ s
  | 2, some r => exact exec_resReg _ r s
  | 2, none => exact exec_resHl _ s
  | _ + 3, some r => exact exec_setReg _ r s
  | _ + 3, none => exact exec_setHl _ s

/-- Every extended row is two bytes long and jumps nowhere. -/
theorem completes_decodeExtended (op2 : Byte) (s : State) :
    Completes (exec (decodeExtended op2) s) fun t => t.cpu.pc = s.cpu.pc + 2 := by
  unfold decodeExtended
  split
  · exact (completes_rotReg _ s _).imp fun _ ⟨_, _, _, _, hpc, _⟩ => hpc
  · exact (completes_rotHl _ s).imp fun _ ⟨_, _, _, hpc, _⟩ => hpc
  · exact (completes_bitReg _ s _).imp fun _ ⟨_, _, _, hpc, _⟩ => hpc
  · exact (completes_bitHl _ s).imp fun _ ⟨_, _, _, hpc, _⟩ => hpc
  · exact (completes_writeBitReg _ false s _).imp fun _ ⟨_, _, _, _, hpc, _⟩ => hpc
  · exact (completes_writeBitHl _ false s).imp fun _ ⟨_, _, _, hpc, _⟩ => hpc
  · exact (completes_writeBitReg _ true s _).imp fun _ ⟨_, _, _, _, hpc, _⟩ => hpc
  · exact (completes_writeBitHl _ true s).imp fun _ ⟨_, _, _, hpc, _⟩ => hpc

/-- Settles O22: the prefix row runs the entry of the extended table, which is the row the decoder gives. -/
theorem prefixSelectsExtendedRow : Obligations.PrefixSelectsExtendedRow := by
  intro s op2
  have hprefix : exec (.prefixCb op2) s = exec (decodeExtended op2) s := (exec_decodeExtended op2 s).symm
  obtain ⟨t, ht, hpc⟩ := completes_decodeExtended op2 s
  exact ⟨t, hprefix.trans ht, ht, encode_decodeExtended op2, hpc⟩

end Sys2Proof.Machine

/-! Control flow (45_control_flow.md): a jump, a word pushed or popped on the way, and the conditional forms as a
choice between one of these and falling through. -/

namespace Sys2Proof.Machine

/-! ### Where `pc` goes -/

section
variable (s : State) (w target : Word) (len ticks : Nat)

/-- `pc` is no register of the frame. -/
@[simp] theorem sameRegsBut_putPc (t : State) {ds : List Reg8} :
    SameRegsBut s (t.putPc w) ds ↔ SameRegsBut s t ds := by
  simp [SameRegsBut, SameLatches]

/-- An instruction that jumps and does nothing else. -/
theorem completes_putPc : Completes (((s.advance len).putPc target).done ticks) fun t =>
    t.cpu.f = s.cpu.f ∧ SameRegsBut s t [] ∧ SameOutsideCpu s t ∧ Ends t target ticks :=
  ⟨_, done_eq _ _, by simp, by simp, by simp [sameOutside_iff], by simp [Ends]⟩

/-- Falling through is a jump to the next instruction. -/
theorem completes_advance : Completes ((s.advance len).done ticks) fun t =>
    t.cpu.f = s.cpu.f ∧ SameRegsBut s t [] ∧ SameOutsideCpu s t ∧
      Ends t (s.cpu.pc + BitVec.ofNat 16 len) ticks :=
  completes_putPc s _ 0 ticks

/-- An instruction that pushes a word and jumps. -/
theorem completes_push16_putPc : Completes ((((s.advance len).push16 w).putPc target).done ticks) fun t =>
    TwoStores s t (s.cpu.sp - 1) (hiByte w) (s.cpu.sp - 2) (loByte w) ∧ t.cpu.sp = s.cpu.sp - 2 ∧
      t.cpu.f = s.cpu.f ∧ SameRegsButPair s t .sp ∧ Ends t target ticks := by
  rw [push16_eq, advance_sp]
  exact ⟨_, done_eq _ _, .of_same (by simp [sameOutside_iff]), by simp, by simp,
    by simp [SameRegsButPair, SameLatches], by simp [Ends]⟩

/-- An instruction that drops the top of the stack and jumps. -/
theorem completes_dropTop_putPc : Completes (((s.advance len).dropTop.putPc target).done ticks) fun t =>
    t.cpu.sp = s.cpu.sp + 2 ∧ t.cpu.f = s.cpu.f ∧ SameRegsButPair s t .sp ∧ SameOutsideCpu s t ∧
      Ends t target ticks := by
  rw [dropTop_eq, advance_sp]
  exact ⟨_, done_eq _ _, by simp, by simp, by simp [SameRegsButPair, SameLatches], by simp [sameOutside_iff],
    by simp [Ends]⟩

end

/-! ### Jumps -/

section
variable (k : Cond) (s : State)

theorem encode_jpCond (nn : Word) :
    encode (Instr.jpCond k nn) = [BitVec.ofNat 8 (0xC2 + 8 * codeOfCond k), loByte nn, hiByte nn] := by
  cases k <;> rfl

theorem encode_jrCond (e : Byte) : encode (Instr.jrCond k e) = [BitVec.ofNat 8 (0x20 + 8 * codeOfCond k), e] := by
  cases k <;> rfl

theorem exec_jrRel (e : Byte) : exec (.jrRel e) s = ((s.advance 2).putPc ((s.advance 2).relTarget e)).done 12 := rfl

theorem jumpIf_eq (nn : Word) : jumpIf k nn s =
    if condHolds k s.cpu.f then ((s.advance 3).putPc nn).done 16 else (s.advance 3).done 12 := by
  rw [jumpIf, advance_cond, condHolds_eq]

theorem jumpRelIf_eq (e : Byte) : jumpRelIf k e s =
    if condHolds k s.cpu.f then ((s.advance 2).putPc ((s.advance 2).relTarget e)).done 12
    else (s.advance 2).done 8 := by
  rw [jumpRelIf, advance_cond, condHolds_eq]

end

/-- A jump that may be taken changes `pc` only, either way. -/
theorem completes_jump_or_fall (s : State) (taken : Bool) (target : Word) (len jumpTicks fallTicks : Nat) :
    Completes (if taken then ((s.advance len).putPc target).done jumpTicks else (s.advance len).done fallTicks)
      fun t => t.cpu.f = s.cpu.f ∧ SameRegsBut s t [] ∧ SameOutsideCpu s t ∧
        Ends t (if taken then target else s.cpu.pc + BitVec.ofNat 16 len)
          (if taken then jumpTicks else fallTicks) := by
  cases taken
  case false => exact completes_advance s len fallTicks
  case true => exact completes_putPc s target len jumpTicks

/-- Settles O23: every form is a jump, or the choice between a jump and falling through. -/
theorem jumpsTakenOrNotOnlyWritePc : Obligations.JumpsTakenOrNotOnlyWritePc := by
  refine ⟨fun s => ⟨fun nn => ⟨rfl, completes_putPc s nn 3 16⟩, ⟨rfl, completes_putPc s s.hl 1 4⟩,
    fun e => ⟨rfl, ?rel⟩⟩, ?cond⟩
  case rel =>
    rw [exec_jrRel, relTarget_eq]
    exact completes_putPc s _ 2 12
  case cond =>
    rintro s k _ rfl
    refine ⟨fun nn => ⟨encode_jpCond k nn, ?jp⟩, fun e => ⟨encode_jrCond k e, ?jr⟩⟩
    case jp =>
      rw [exec_jpCond, jumpIf_eq]
      exact completes_jump_or_fall s _ nn 3 16 12
    case jr =>
      rw [exec_jrCond, jumpRelIf_eq, relTarget_eq]
      exact completes_jump_or_fall s _ _ 2 12 8

/-! ### Calls -/

section
variable (k : Cond) (s : State)

theorem encode_callCond (nn : Word) :
    encode (Instr.callCond k nn) = [BitVec.ofNat 8 (0xC4 + 8 * codeOfCond k), loByte nn, hiByte nn] := by
  cases k <;> rfl

theorem callIf_eq (nn : Word) : callIf k nn s =
    if condHolds k s.cpu.f then (((s.advance 3).push16 (s.cpu.pc + 3)).putPc nn).done 24
    else (s.advance 3).done 12 := by
  rw [callIf, advance_cond, condHolds_eq, advance_pc]
  rfl

end

/-- Settles O24: a call taken pushes the `pc` past the instruction, and a call not taken falls through. -/
theorem callsPushReturnAddress : Obligations.CallsPushReturnAddress := by
  rintro s nn _ rfl
  refine ⟨⟨rfl, completes_push16_putPc s _ nn 3 24⟩, fun k => ⟨fun hk => ⟨encode_callCond k nn, ?taken⟩,
    fun hk => ⟨encode_callCond k nn, ?fall⟩⟩⟩ <;> rw [exec_callCond, callIf_eq, hk]
  case taken => exact completes_push16_putPc s _ nn 3 24
  case fall => exact completes_advance s 3 12

/-! ### Returns -/

section
variable (k : Cond) (s : State)

theorem encode_retCond : encode (Instr.retCond k) = [BitVec.ofNat 8 (0xC0 + 8 * codeOfCond k)] := by
  cases k <;> rfl

theorem returnIf_eq : returnIf k s =
    if condHolds k s.cpu.f then ((s.advance 1).dropTop.putPc s.stackTop).done 20 else (s.advance 1).done 8 := by
  rw [returnIf, advance_cond, condHolds_eq, stackTop_advance]

theorem exec_ret : exec .ret s = ((s.advance 1).dropTop.putPc s.stackTop).done 16 := by
  change execRet s = _
  rw [execRet, stackTop_advance]

/-- `RETI` writes three fields of the CPU. -/
theorem exec_reti : exec .reti s = .next
    { s with cpu := { s.cpu with pc := s.stackTop, sp := s.cpu.sp + 2, ime := true }, cycles := 16 } := by
  change execReti s = _
  rw [execReti, done_eq, State.returnFromInterrupt, stackTop_advance, dropTop_eq]
  rfl

theorem completes_reti : Completes (exec .reti s) fun t =>
    t.cpu.ime = true ∧ t.cpu.imePending = s.cpu.imePending ∧ t.cpu.halted = s.cpu.halted ∧
      t.cpu.dead = s.cpu.dead ∧ t.cpu.sp = s.cpu.sp + 2 ∧ t.cpu.f = s.cpu.f ∧
      (∀ q : Reg8, t.reg q = s.reg q) ∧ SameOutsideCpu s t ∧ Ends t s.stackTop 16 :=
  ⟨_, exec_reti s, rfl, rfl, rfl, rfl, rfl, rfl, fun q => by cases q <;> rfl, .cpu s _ 16, rfl, rfl⟩

end

/-- Settles O25: a return taken jumps to the word at the top of the stack, which it drops. -/
theorem returnsPopPc : Obligations.ReturnsPopPc := by
  rintro s _ rfl
  refine ⟨⟨rfl, ?ret⟩, fun k => ⟨fun hk => ⟨encode_retCond k, ?taken⟩, fun hk => ⟨encode_retCond k, ?fall⟩⟩,
    rfl, completes_reti s⟩
  case ret =>
    rw [exec_ret]
    exact completes_dropTop_putPc s s.stackTop 1 16
  case taken =>
    rw [exec_retCond, returnIf_eq, hk]
    exact completes_dropTop_putPc s s.stackTop 1 20
  case fall =>
    rw [exec_retCond, returnIf_eq, hk]
    exact completes_advance s 1 8

/-! ### Restarts -/

theorem encode_rst (y : Fin 8) : encode (Instr.rst y) = [BitVec.ofNat 8 (0xC7 + 8 * y.val)] := by
  fin_cases y <;> rfl

theorem restart_eq (target : Word) (s : State) :
    restart target s = (((s.advance 1).push16 (s.cpu.pc + 1)).putPc target).done 16 := by
  rw [restart, advance_pc]
  rfl

/-- Settles O26: a restart is a call of one byte, to a target below 64. -/
theorem restartsCallFixedAddresses : Obligations.RestartsCallFixedAddresses := by
  rintro s y _ rfl
  have htarget : (BitVec.ofNat 16 (8 * y.val)).toNat = 8 * y.val := Nat.mod_eq_of_lt (by omega)
  rw [exec_rst, restart_eq]
  refine ⟨encode_rst y, (completes_push16_putPc s _ _ 1 16).imp fun t ⟨hstores, hsp, hf, hregs, hpc, hticks⟩ => ?_⟩
  exact ⟨hstores, hsp, hf, hregs, hpc ▸ htarget, hticks⟩

end Sys2Proof.Machine

/-! CPU control (46_cpu_control.md): the instructions that write latches only, the EI delay over two steps, and the
two outcomes. -/

namespace Sys2Proof.Machine

/-! ### Instructions that write the CPU's latches only -/

section
variable (s : State)

theorem exec_nop : exec .nop s = .next { s with cpu := { s.cpu with pc := s.cpu.pc + 1 }, cycles := 4 } := rfl

theorem exec_halt : exec .halt s = .next
    { s with cpu := { s.cpu with pc := s.cpu.pc + 1, halted := true }, cycles := 4 } := rfl

theorem exec_di : exec .di s = .next
    { s with cpu := { s.cpu with pc := s.cpu.pc + 1, ime := false }, cycles := 4 } := rfl

theorem exec_ei : exec .ei s = .next
    { s with cpu := { s.cpu with pc := s.cpu.pc + 1, imePending := true }, cycles := 4 } := rfl

/-- An instruction that writes the CPU and nothing else. -/
theorem completes_putCpu (c : Cpu) (ticks : Nat) :
    Completes (.next { s with cpu := c, cycles := ticks }) fun t =>
      t.cpu = c ∧ SameOutsideCpu s t ∧ t.cycles = ticks :=
  ⟨_, rfl, rfl, .cpu s c ticks, rfl⟩

end

/-- Settles O27: each of the three writes `pc` and at most one latch of the CPU. -/
theorem controlInstructionsChangeOneLatch : Obligations.ControlInstructionsChangeOneLatch := by
  intro s
  rw [exec_nop, exec_halt, exec_di]
  exact ⟨⟨rfl, completes_putCpu s _ 4⟩, ⟨rfl, completes_putCpu s _ 4⟩, rfl, completes_putCpu s _ 4⟩

/-! ### The EI delay -/

/-- The poll wakes only a halted CPU. -/
theorem wake_running {s : State} (h : s.cpu.halted = false) : s.wake = s := by
  rw [wake_eq, h, Bool.false_and, ← h]

/-- The step after EI: the latch is still clear at the poll, and set when the instruction runs (rule R315). -/
theorem cpuStep_eiPending {s : State} (hd : s.cpu.dead = none) (hh : s.cpu.halted = false)
    (hi : s.cpu.ime = false) (hp : s.cpu.imePending = true) :
    s.cpuStep = exec s.fetched { s with cpu := { s.cpu with ime := true, imePending := false } } := by
  rw [cpuStep_run hd (.inl hi) (.inl hh), wake_running hh, commitIme_pending hp]

/-- Settles O32: EI leaves the latch to the next step, which sets it after its poll; DI there clears it again. -/
theorem eiTakesEffectAfterTheNextInstruction : Obligations.EiTakesEffectAfterTheNextInstruction := by
  intro s
  rw [exec_ei]
  refine ⟨⟨rfl, completes_putCpu s _ 4⟩, fun hd hh hi hp => ?_⟩
  have hstep := cpuStep_eiPending hd hh hi hp
  refine ⟨hstep, fun hdi => ?di, fun hnop => ?nop⟩
  case di =>
    rw [hstep, hdi, exec_di]
    exact ⟨_, rfl, rfl, rfl⟩
  case nop =>
    rw [hstep, hnop, exec_nop]
    exact ⟨_, rfl, rfl, rfl, rfl, rfl⟩

/-! ### STOP and the illegal opcodes -/

section
variable (s : State)

theorem exec_stop (n : Byte) : exec (.stop n) s = .fault (.stop s.cpu.pc) := rfl

theorem encode_illegal (k : IllegalOpcode) : encode (Instr.illegal k) = [k.byte] := by
  cases k <;> rfl

theorem illegalOpcode_fatal (op : Byte) (h : s.policy = .fatal) :
    illegalOpcode op s = .fault (.decodeError op s.cpu.pc) := by
  rw [illegalOpcode, h]

/-- Under the policy `nop` an illegal opcode is `NOP`. -/
theorem illegalOpcode_nop (op : Byte) (h : s.policy = .nop) : illegalOpcode op s = exec .nop s := by
  rw [illegalOpcode, h]
  rfl

/-- An outcome leaves every register and everything outside the CPU. -/
theorem afterOutcome_frame (f : Fault) :
    (s.afterOutcome f).cpu.pc = s.cpu.pc ∧ (∀ q : Reg8, (s.afterOutcome f).reg q = s.reg q) ∧
      (s.afterOutcome f).cpu.f = s.cpu.f ∧ (s.afterOutcome f).cpu.sp = s.cpu.sp ∧
      SameOutsideCpu s (s.afterOutcome f) := by
  obtain ⟨h, d, e⟩ := afterOutcome_eq s f
  rw [e]
  exact ⟨rfl, fun q => by cases q <;> rfl, rfl, rfl, .cpu s _ _⟩

end

/-- Settles O28: STOP answers its outcome, an illegal opcode does as the policy says, and `dead` keeps an outcome. -/
theorem stopAndIllegalOpcodes : Obligations.StopAndIllegalOpcodes := by
  intro s
  refine ⟨fun n => ⟨rfl, exec_stop s n⟩, fun f hd => ?outcome, fun k => ⟨encode_illegal k, ?illegal⟩⟩
  case outcome =>
    have hdead : (s.afterOutcome f).cpu.dead = some f := by rw [afterOutcome_alive hd]
    obtain ⟨hpc, hregs, hf, hsp, hout⟩ := afterOutcome_frame s f
    exact ⟨hdead, hpc, hregs, hf, hsp, hout, step_dead hdead⟩
  case illegal =>
    rw [exec_illegal]
    refine ⟨illegalOpcode_fatal s k.byte, fun hnop => ?_⟩
    rw [illegalOpcode_nop s k.byte hnop, exec_nop]
    exact completes_putCpu s _ 4

end Sys2Proof.Machine

/-! Interrupts and the machine step (60_exceptions.md): the registers IF and IE, the priority encoder, what an
interrupt service leaves, the halted state, and the ticks the devices get. -/

namespace Sys2Proof.Machine

/-! ### The interrupt controller -/

section
variable (s : State) (v : Byte)

theorem place_ff0f : s.place 0xFF0F = .io .ifl := rfl

theorem place_ffff : s.place 0xFFFF = .ie := rfl

theorem bus_ifl : s.busRead 0xFF0F = (0xE0 : Byte) ||| s.irq.if5.setWidth 8 ∧
    s.busWrite 0xFF0F v = { s with irq := { s.irq with if5 := v.extractLsb' 0 5 } } := by
  simp only [State.busRead, State.readPlace, State.readIo, State.busWrite, State.writeIo, place_ff0f, and_self]

theorem bus_ie : s.busRead 0xFFFF = s.irq.ie5.setWidth 8 ∧
    s.busWrite 0xFFFF v = { s with irq := { s.irq with ie5 := v.extractLsb' 0 5 } } := by
  simp only [State.busRead, State.readPlace, State.busWrite, place_ffff, and_self]

end

section
variable (q : Irq) (k : IrqSource) (j : Nat)

theorem request_bit : (q.request k).if5.getLsbD j = (decide (j = k.bit) || q.if5.getLsbD j) := by
  rw [Irq.request, BitVec.getLsbD_or, mask_bit, Bool.or_comm]

theorem clear_bit (hj : j < 5) :
    (q.clear k).if5.getLsbD j = (decide (j ≠ k.bit) && q.if5.getLsbD j) := by
  rw [Irq.clear, BitVec.getLsbD_and, BitVec.getLsbD_not, mask_bit, decide_eq_true hj, Bool.true_and, ← decide_not,
    Bool.and_comm]

end

/-- Settles O29: the two registers through the bus, request and clear bit by bit, and the encoder. -/
theorem interruptControllerAndPriorityEncoder : Obligations.InterruptControllerAndPriorityEncoder := by
  intro s
  obtain ⟨hif, -⟩ := bus_ifl s 0
  obtain ⟨hie, -⟩ := bus_ie s 0
  refine ⟨hif, hie, fun v => ⟨(bus_ifl s v).right, (bus_ie s v).right⟩, fun k => ?bits,
    isPending_iff s.irq, highest_iff s.irq, highest_none s.irq⟩
  case bits =>
    exact ⟨request_ie5 _ k, clear_ie5 _ k, fun j hj => ⟨request_bit _ k j, clear_bit _ k j hj⟩⟩

/-! ### Interrupt service -/

/-- A cleared request shows at IF only. -/
theorem busRead_clear (s : State) (k : IrqSource) {x : Word} (hx : x ≠ 0xFF0F) :
    ({ s with irq := s.irq.clear k } : State).busRead x = s.busRead x :=
  readPlace_irq s _ (clear_ie5 s.irq k) fun h => hx (place_ifl h)

/-- IF is no plain RAM. -/
theorem ne_ff0f_of_plainRam {s : State} {a : Word} (h : s.plainRam a) : a ≠ 0xFF0F := by
  rintro rfl
  simp only [State.plainRam, place_ff0f] at h

theorem clear_of_same {s t : State} (h : SameOutsideCpu s t) (k : IrqSource) :
    SameOutsideCpu { s with irq := s.irq.clear k } { t with irq := t.irq.clear k } :=
  .of_fields (congrArg (·.clear k) h.irq) h.timer h.ppu h.cart h.wram h.hram h.joypad h.serial h.dma h.policy

/-- The state an interrupt service leaves, seen from before the poll that wakes the CPU (rule R343). -/
theorem wake_service_spec {s w : State} (hp : s.irq.isPending = true) (k : IrqSource)
    (hw : w = (s.busWrite (s.cpu.sp - 1) (hiByte s.cpu.pc)).busWrite (s.cpu.sp - 2) (loByte s.cpu.pc)) :
    (s.wake.service k).cpu =
        { s.cpu with sp := s.cpu.sp - 2, pc := k.vector, ime := false, imePending := false, halted := false } ∧
      SameOutsideCpu { w with irq := w.irq.clear k } (s.wake.service k) ∧ (s.wake.service k).cycles = 20 := by
  have hstores := busWrite_of_same (busWrite_of_same (wake_outside s) (s.cpu.sp - 1) (hiByte s.cpu.pc))
    (s.cpu.sp - 2) (loByte s.cpu.pc)
  rw [← hw] at hstores
  rw [wake_pending hp] at hstores ⊢
  exact ⟨service_cpu _ k, (clear_of_same hstores k).trans (service_outside _ k rfl), rfl⟩

/-- A push followed by a cleared request reads as the push alone, everywhere but at IF. -/
theorem TwoStores.reads_clear {s w t : State} {a b : Word} {u v : Byte} {k : IrqSource}
    (h : TwoStores s w a u b v) (ht : SameOutsideCpu { w with irq := w.irq.clear k } t)
    (ha : s.plainRam a) (hb : s.plainRam b) (hab : s.place a ≠ s.place b) :
    t.busRead a = u ∧ t.busRead b = v ∧
      ∀ x : Word, s.place x ≠ s.place a → s.place x ≠ s.place b → x ≠ 0xFF0F → t.busRead x = s.busRead x := by
  have hreads : ∀ x : Word, x ≠ 0xFF0F → t.busRead x = w.busRead x := fun x hx =>
    (ht.reads x).trans (busRead_clear w k hx)
  exact ⟨(hreads a (ne_ff0f_of_plainRam ha)).trans (h.storedFirst ha hb hab),
    (hreads b (ne_ff0f_of_plainRam hb)).trans (h.storedSecond ha hb),
    fun x hxa hxb hx => (hreads x hx).trans (h.others ha hb x hxa hxb)⟩

/-- Settles O30: the step services the source the encoder gives, and its two stores are those of a push. -/
theorem interruptServiceSavesPcAndJumps : Obligations.InterruptServiceSavesPcAndJumps := by
  rintro s _ k hd hi hen hreq hlow rfl
  have hk : s.irq.highestPriorityPending = some k := (highest_iff s.irq k).2 ⟨hen, hreq, hlow⟩
  have hstep := cpuStep_service hd hi hk
  obtain ⟨hcpu, hout, hticks⟩ := wake_service_spec (isPending_of_highest hk) k rfl
  exact ⟨_, hstep, hcpu, hout, hticks, (TwoStores.of_same (.refl _)).reads_clear hout, step_of_next hstep⟩

/-! ### The halted state -/

theorem isPending_eq_false {q : Irq}
    (h : ∀ j : Nat, j < 5 → ¬(q.ie5.getLsbD j = true ∧ q.if5.getLsbD j = true)) : q.isPending = false := by
  rw [← Bool.not_eq_true, isPending_iff]
  rintro ⟨j, hj, hset⟩
  exact h j hj hset

/-- A pending source wakes the CPU; with the latch clear it then executes (rule R347). -/
theorem cpuStep_wake {s : State} (hinv : s.cpu.Inv) (hd : s.cpu.dead = none) (hh : s.cpu.halted = true)
    (hp : s.irq.isPending = true) (hi : s.cpu.ime = false) :
    s.cpuStep = exec s.fetched { s with cpu := { s.cpu with halted := false } } := by
  have hlatch : s.wake.cpu.imePending = false := by
    rw [wake_pending hp]
    exact hinv.haltedCommitted hh
  rw [cpuStep_run hd (.inl hi) (.inr hp), commitIme_none hlatch, wake_pending hp]

/-- Settles O31: the poll decides, by what is pending and by the latch. -/
theorem haltedIdlesUntilPending : Obligations.HaltedIdlesUntilPending := by
  intro s hinv hd hh
  refine ⟨fun hnone => ?idle, fun hsome hi => ?run, fun k hk hi => ?service⟩
  case idle =>
    have hstep := cpuStep_idle hd hh (isPending_eq_false hnone)
    exact ⟨hstep, step_of_next hstep⟩
  case run => exact cpuStep_wake hinv hd hh ((isPending_iff s.irq).2 hsome) hi
  case service =>
    obtain ⟨hcpu, -, hticks⟩ := wake_service_spec (isPending_of_highest hk) k rfl
    exact ⟨_, cpuStep_service hd hi hk, congrArg Cpu.halted hcpu, congrArg Cpu.ime hcpu, congrArg Cpu.pc hcpu,
      congrArg Cpu.sp hcpu, hticks⟩

/-! ### The machine step -/

/-- Settles O35: the devices advance by the ticks of the CPU step that ended in a next state. -/
theorem machineStepFeedsTheDevices : Obligations.MachineStepFeedsTheDevices := fun _ =>
  ⟨fun _ h => ⟨cpuStep_ticks h, step_of_next h⟩, fun _ => step_of_fault⟩

end Sys2Proof.Machine

/-! The timer (61_timer.md): the count by periods, the reload window that an overflow opens, and the four
registers. -/

namespace Sys2Proof.Machine

/-! ### The count -/

section
variable {s : State}

/-- Short of the period the accumulator counts, if the timer is on, whatever a pending reload does (rule R374). -/
theorem tick_timerAcc {t : Timer} (hp : t.timerAcc.toNat + 1 ≠ timerPeriod t.tac) :
    t.tick.1.timerAcc = if t.tac.getLsbD 2 then t.timerAcc + 1 else t.timerAcc := by
  simp only [Timer.tick, Timer.countTick, Timer.enabled, reloadTick_tac, reloadTick_timerAcc, if_neg hp]
  split <;> simp only [reloadTick_timerAcc]

theorem timerAdvance_timerAcc {n : Nat} (hn : s.timer.timerAcc.toNat + n < timerPeriod s.timer.tac) :
    (s.timerAdvance n).timer.timerAcc.toNat =
      s.timer.timerAcc.toNat + if s.timer.tac.getLsbD 2 then n else 0 := by
  induction n with
  | zero => simp [timerAdvance_zero]
  | succ n ih =>
    have ih := ih (by omega)
    have htac := (timerAdvance_same s n).tac
    have hmax := (timerPeriod_ge s.timer.tac).2
    have hshort : (s.timerAdvance n).timer.timerAcc.toNat + 1 ≠ timerPeriod (s.timerAdvance n).timer.tac := by
      rw [htac, ih]
      split <;> omega
    rw [timerAdvance_succ, timerTick_timer, tick_timerAcc hshort, htac]
    split at ih
    case isTrue hon =>
      rw [if_pos hon, if_pos hon]
      bv_omega
    case isFalse hoff => rw [if_neg hoff, if_neg hoff, ih]

theorem timerAdvance_div16 (s : State) (n : Nat) :
    (s.timerAdvance n).timer.div16 = s.timer.div16 + BitVec.ofNat 16 n := by
  induction n with
  | zero => simp [timerAdvance_zero]
  | succ n ih =>
    rw [timerAdvance_succ, timerTick_timer, tick_div16, ih, BitVec.add_assoc, BitVec.ofNat_add]
    rfl

/-- A timer that is off, with no reload pending, holds. -/
theorem timerAdvance_off (hoff : s.timer.tac.getLsbD 2 = false) (hr : s.timer.reloadPending = false) (n : Nat) :
    (s.timerAdvance n).timer = { s.timer with div16 := (s.timerAdvance n).timer.div16 } ∧
      (s.timerAdvance n).irq = s.irq := by
  induction n with
  | zero => exact ⟨rfl, rfl⟩
  | succ n ih =>
    obtain ⟨ht, hi⟩ := ih
    have htick : (s.timerAdvance n).timer.tick = _ := tick_off (by rw [ht, hr]) (by rw [ht, hoff])
    rw [timerAdvance_succ, timerTick_timer, timerTick_irq, htick]
    refine ⟨?_, hi⟩
    rw [ht]

theorem div_mod_succ_of_wrap {x p : Nat} (h : x % p + 1 = p) : (x + 1) / p = x / p + 1 ∧ (x + 1) % p = 0 := by
  have hx := Nat.div_add_mod x p
  refine (Nat.div_mod_unique (by omega)).2 ⟨?_, by omega⟩
  rw [Nat.mul_succ]
  omega

theorem div_mod_succ_of_short {x p : Nat} (h : x % p + 1 < p) : (x + 1) / p = x / p ∧ (x + 1) % p = x % p + 1 := by
  have hx := Nat.div_add_mod x p
  exact (Nat.div_mod_unique (by omega)).2 ⟨by omega, h⟩

/-- `u` is `s` after `n` ticks of an enabled timer without an overflow: the accumulator and TIMA are the remainder
and the quotient of the ticks by the period (rule R374). -/
structure CountedTo (s u : State) (n : Nat) : Prop where
  tima : u.timer.tima.toNat =
    s.timer.tima.toNat + (s.timer.timerAcc.toNat + n) / timerPeriod s.timer.tac
  acc : u.timer.timerAcc.toNat = (s.timer.timerAcc.toNat + n) % timerPeriod s.timer.tac
  irq : u.irq = s.irq
  idle : u.timer.reloadPending = false
  tac : u.timer.tac = s.timer.tac

/-- One tick further: the end of a period carries into TIMA, any other tick into the accumulator. -/
theorem CountedTo.timerTick {u : State} {n : Nat} (h : CountedTo s u n) (hon : s.timer.tac.getLsbD 2 = true)
    (hn : s.timer.tima.toNat + (s.timer.timerAcc.toNat + (n + 1)) / timerPeriod s.timer.tac ≤ 255) :
    CountedTo s u.timerTick (n + 1) := by
  obtain ⟨htima, hacc, hirq, hidle, htac⟩ := h
  have hu : u.timer.tac.getLsbD 2 = true := by rw [htac, hon]
  obtain ⟨hmin, hmax⟩ := timerPeriod_ge s.timer.tac
  have hlt := Nat.mod_lt (s.timer.timerAcc.toNat + n) (show timerPeriod s.timer.tac > 0 by omega)
  rw [← Nat.add_assoc] at hn
  by_cases hp : u.timer.timerAcc.toNat + 1 = timerPeriod u.timer.tac
  case pos =>
    obtain ⟨hdiv, hmod⟩ := div_mod_succ_of_wrap (by rw [← hacc, ← htac, hp])
    rw [hdiv] at hn
    have htick := tick_period hidle hu hp (by bv_omega)
    constructor <;> simp only [timerTick_timer, timerTick_irq, htick, ← Nat.add_assoc, hdiv, hmod]
    case tima => bv_omega
    case acc => rfl
    case irq => exact hirq
    case idle => exact hidle
    case tac => exact htac
  case neg =>
    have hfits : (u.timer.timerAcc + 1).toNat = u.timer.timerAcc.toNat + 1 := by
      rw [htac] at hp
      bv_omega
    obtain ⟨hdiv, hmod⟩ := div_mod_succ_of_short (x := s.timer.timerAcc.toNat + n)
      (p := timerPeriod s.timer.tac) (by rw [htac] at hp; omega)
    have htick := tick_short hidle hu hp
    constructor <;> simp only [timerTick_timer, timerTick_irq, htick, ← Nat.add_assoc, hdiv, hmod, hfits]
    case tima => exact htima
    case acc => rw [hacc]
    case irq => exact hirq
    case idle => exact hidle
    case tac => exact htac

theorem timerAdvance_counts (hon : s.timer.tac.getLsbD 2 = true) (hr : s.timer.reloadPending = false)
    (hacc : s.timer.timerAcc.toNat < timerPeriod s.timer.tac) {n : Nat}
    (hn : s.timer.tima.toNat + (s.timer.timerAcc.toNat + n) / timerPeriod s.timer.tac ≤ 255) :
    CountedTo s (s.timerAdvance n) n := by
  induction n with
  | zero => exact ⟨by simp [timerAdvance_zero, Nat.div_eq_of_lt hacc], (Nat.mod_eq_of_lt hacc).symm, rfl, hr, rfl⟩
  | succ n ih =>
    have hle : (s.timer.timerAcc.toNat + n) / timerPeriod s.timer.tac ≤
        (s.timer.timerAcc.toNat + (n + 1)) / timerPeriod s.timer.tac := Nat.div_le_div_right (by omega)
    rw [timerAdvance_succ]
    exact (ih (by omega)).timerTick hon hn

end

/-- Settles O38: outside the timer only its own request bit can change; the count is by induction on the ticks. -/
theorem timerCountsPeriodsAndDividerCountsTicks : Obligations.TimerCountsPeriodsAndDividerCountsTicks := by
  refine ⟨by decide, ?_⟩
  rintro s n _ rfl
  have hsame := timerAdvance_same s n
  obtain ⟨hie, hif⟩ := timerAdvance_irq_other s n
  have e := hsame.eq
  refine ⟨timerAdvance_div16 s n, hsame.tma, hsame.tac, by rw [e], by rw [e], by rw [e], by rw [e], by rw [e],
    by rw [e], by rw [e], by rw [e], by rw [e], hie, hif, fun hon hr hacc hn => ?on, fun hoff hr => ?off⟩
  case on =>
    have hc := timerAdvance_counts hon hr hacc hn
    exact ⟨hc.tima, hc.acc, hc.irq⟩
  case off =>
    obtain ⟨ht, hi⟩ := timerAdvance_off hoff hr n
    exact ⟨by rw [ht], by rw [ht], hi⟩

/-! ### The reload window -/

section
variable {s : State}

/-- No period ends inside the window, the timer on or off (rule R375). -/
theorem Timer.Inv.short_in_window {t : Timer} (h : t.Inv) (hr : t.reloadPending = true) :
    t.timerAcc.toNat + t.reloadDelay.toNat < timerPeriod t.tac := by
  have hw := h.window hr
  have hp := timerPeriod_ge t.tac
  omega

/-- `u` is `s` after `n` ticks inside the reload window: nothing loaded, nothing requested (rule R377). -/
structure WindowAfter (s u : State) (n : Nat) : Prop where
  inv : u.timer.Inv
  pending : u.timer.reloadPending = true
  delay : u.timer.reloadDelay.toNat + n = s.timer.reloadDelay.toNat
  tima : u.timer.tima = s.timer.tima
  irq : u.irq = s.irq

theorem timerAdvance_window (h : s.timer.Inv) (hr : s.timer.reloadPending = true) {n : Nat}
    (hn : n < s.timer.reloadDelay.toNat) : WindowAfter s (s.timerAdvance n) n := by
  induction n with
  | zero => exact ⟨h, hr, rfl, rfl, rfl⟩
  | succ n ih =>
    obtain ⟨hinv, hpend, hdelay, htima, hirq⟩ := ih (by omega)
    have hshort := hinv.short_in_window hpend
    have htick := tick_window hpend (by bv_omega) (by omega)
    rw [timerAdvance_succ]
    refine ⟨tick_inv hinv, ?_, ?_, ?_, ?_⟩ <;> simp only [timerTick_timer, timerTick_irq, htick]
    · exact hpend
    · bv_omega
    · exact htima
    · exact hirq

/-- The last tick of the window loads the modulo and requests the interrupt (rule R378). -/
theorem timerAdvance_reload (h : s.timer.Inv) (hr : s.timer.reloadPending = true) {d : Nat}
    (hd : d = s.timer.reloadDelay.toNat) :
    (s.timerAdvance d).timer.tima = s.timer.tma ∧ (s.timerAdvance d).timer.reloadPending = false ∧
      (s.timerAdvance d).irq = s.irq.request .timer := by
  have hpos := (h.window hr).1
  obtain ⟨n, rfl⟩ : ∃ n, d = n + 1 := ⟨d - 1, by omega⟩
  obtain ⟨hinv, hpend, hdelay, -, hirq⟩ := timerAdvance_window h hr (n := n) (by omega)
  have hshort := hinv.short_in_window hpend
  have htick := tick_reload hpend (by bv_omega) (by omega)
  rw [timerAdvance_succ]
  simp only [timerTick_timer, timerTick_irq, htick, hirq, (timerAdvance_same s n).tma, if_true, and_self]

/-- The tick of an overflow opens a window of four ticks (rule R377). -/
theorem timerTick_overflow (hon : s.timer.tac.getLsbD 2 = true) (hr : s.timer.reloadPending = false)
    (htima : s.timer.tima = 0xFF) (hp : s.timer.timerAcc.toNat + 1 = timerPeriod s.timer.tac) :
    s.timerTick.timer.Inv ∧ s.timerTick.timer.reloadPending = true ∧ s.timerTick.timer.reloadDelay = 4 ∧
      s.timerTick.timer.tima = 0 ∧ s.timerTick.irq = s.irq := by
  have htick := tick_overflow hr hon hp htima
  rw [timerTick_timer, timerTick_irq, htick]
  have hperiod : 0 < timerPeriod s.timer.tac := Nat.lt_of_lt_of_le (by decide) (timerPeriod_ge _).1
  exact ⟨⟨hperiod, fun _ => ⟨by simp, by simp⟩⟩, rfl, rfl, rfl, rfl⟩

end

/-- Settles O37: inside the window nothing but the count moves, its last tick reloads, and an overflow opens it. -/
theorem timerOverflowReloadsFourTicksLater : Obligations.TimerOverflowReloadsFourTicksLater := by
  refine ⟨fun s h hr d hd => ⟨fun n hn => ?window, fun n hn => ?acc, ?reload⟩,
    fun s hon hr htima hp => ⟨fun n h1 h4 => ?opened, ?closed⟩⟩
  case window =>
    have hw := timerAdvance_window h hr (hd ▸ hn)
    exact ⟨hw.tima, hw.pending, hw.irq⟩
  case acc =>
    have hshort := h.short_in_window hr
    exact timerAdvance_timerAcc (by omega)
  case reload =>
    obtain ⟨htima, hpend, hirq⟩ := timerAdvance_reload h hr hd
    exact ⟨htima, hpend, by rw [hirq]; rfl, by rw [hirq, request_ie5]⟩
  case opened =>
    obtain ⟨hinv, hpend, hdelay, h0, hirq⟩ := timerTick_overflow hon hr htima hp
    obtain ⟨m, rfl⟩ : ∃ m, n = m + 1 := ⟨n - 1, by omega⟩
    have hw := timerAdvance_window hinv hpend (n := m) (by rw [hdelay]; exact h4)
    exact ⟨hw.tima.trans h0, hw.pending, hw.irq.trans hirq⟩
  case closed =>
    obtain ⟨hinv, hpend, hdelay, -, hirq⟩ := timerTick_overflow hon hr htima hp
    obtain ⟨ht, hp', hi⟩ := timerAdvance_reload hinv hpend (d := 4) (by rw [hdelay]; rfl)
    rw [hirq] at hi
    have hirq5 : (s.timerAdvance 5).irq = s.irq.request .timer := hi
    exact ⟨ht.trans (timerTick_same s).tma, hp', by rw [hirq5]; rfl, by rw [hirq5, request_ie5]⟩

/-! ### The registers -/

/-- A bus access that leads to a register (rule R75). -/
theorem bus_io {s : State} {a : Word} {r : IoReg} (h : s.place a = .io r) (v : Byte) :
    s.busRead a = s.readIo r ∧ s.busWrite a v = s.writeIo r v := by
  simp only [State.busRead, State.readPlace, State.busWrite, h, and_self]

/-- Settles O39: each address leads to its register. -/
theorem timerRegisterReadsAndWrites : Obligations.TimerRegisterReadsAndWrites := by
  intro s v
  obtain ⟨hdiv, hdivW⟩ := bus_io (show s.place 0xFF04 = .io .div from rfl) v
  obtain ⟨htima, htimaW⟩ := bus_io (show s.place 0xFF05 = .io .tima from rfl) v
  obtain ⟨htma, htmaW⟩ := bus_io (show s.place 0xFF06 = .io .tma from rfl) v
  obtain ⟨htac, htacW⟩ := bus_io (show s.place 0xFF07 = .io .tac from rfl) v
  exact ⟨hdiv, htima, htma, htac, hdivW, htimaW, htmaW, htacW⟩

end Sys2Proof.Machine

/-! The PPU's clock (62_ppu.md): the beam, the modes and the frame, the requests for STAT, the LCD switched off, and
when a scanline is rendered and a frame published. -/

namespace Sys2Proof.Machine

/-! ### The beam -/

/-- The dot of the frame the beam stands at (rule R390). -/
def Ppu.beam (p : Ppu) : Nat := p.ly * 456 + p.dot

theorem beam_lt {p : Ppu} (h : p.Inv) : p.beam < 70224 := by
  have hl := h.lyRange
  have hd := h.dotRange
  simp only [Config.scanlines, Config.dotsPerLine] at hl hd
  simp only [Ppu.beam]
  omega

theorem tick_lcdOn (p : Ppu) : p.tick.1.lcdOn = p.lcdOn := by
  simp only [Ppu.lcdOn, (tick_regs p).lcdc]

theorem beam_tick {p : Ppu} (h : p.Inv) (hon : p.lcdOn = true) : p.tick.1.beam = (p.beam + 1) % 70224 := by
  have hrange := h.lyRange
  have hc := tick_cases h hon
  generalize p.tick = r at hc
  simp only [Config.scanlines] at hrange
  cases hc
  case wrap hl hd => simp only [Ppu.beam, hl, hd]
  all_goals
    simp only [Ppu.beam, Ppu.renderLine]
    omega

/-- The frame is complete at the wrap of the beam (rule R431). -/
theorem frameComplete_tick {p : Ppu} (h : p.Inv) (hon : p.lcdOn = true) :
    p.tick.1.frameComplete = (p.frameComplete || decide (p.beam + 1 = 70224)) := by
  have hrange := h.lyRange
  have hc := tick_cases h hon
  generalize p.tick = r at hc
  simp only [Config.scanlines] at hrange
  cases hc
  case wrap hl hd => simp only [Ppu.beam, hl, hd, decide_true, Bool.or_true]
  case render hl hd =>
    rw [decide_eq_false (by simp only [Ppu.beam]; omega), Bool.or_false]
    rfl
  all_goals rw [decide_eq_false (by simp only [Ppu.beam]; omega), Bool.or_false]

/-- VBlank is requested where the first scanline behind the screen begins (rule R408). -/
theorem vblank_tick {p : Ppu} (h : p.Inv) (hon : p.lcdOn = true) :
    p.tick.2.getLsbD 0 = decide (p.beam + 1 = 65664) := by
  have hrange := h.lyRange
  have hc := tick_cases h hon
  generalize p.tick = r at hc
  simp only [Config.scanlines] at hrange
  cases hc
  case vblank hl hd =>
    simp only [BitVec.getLsbD_or, vblankMask_bit, statRequest_bit, lycRequest_bit, Ppu.beam, hl, hd]
    rfl
  all_goals
    rw [eq_comm, decide_eq_false (by simp only [Ppu.beam]; omega)]
    simp only [BitVec.getLsbD_or, statRequest_bit, lycRequest_bit]
    rfl

/-- The beam over any number of ticks of the machine's PPU: the LCD stays on, and the frame is complete once the beam
has wrapped. -/
theorem ppuAdvance_beam {s : State} (h : s.ppu.Inv) (hon : s.ppu.lcdOn = true) (n : Nat) :
    (s.ppuAdvance n).ppu.lcdOn = true ∧ (s.ppuAdvance n).ppu.beam = (s.ppu.beam + n) % 70224 ∧
      ((s.ppuAdvance n).ppu.frameComplete = true ↔ s.ppu.frameComplete = true ∨ 70224 ≤ s.ppu.beam + n) := by
  induction n with
  | zero =>
    have hlt := beam_lt h
    rw [ppuAdvance_zero, Nat.add_zero, Nat.mod_eq_of_lt hlt]
    exact ⟨hon, rfl, (or_iff_left (by omega)).symm⟩
  | succ n ih =>
    obtain ⟨hon', hbeam, hframe⟩ := ih
    have hinv := ppuAdvance_inv h n
    rw [ppuAdvance_succ, ppuTick_ppu, tick_lcdOn, beam_tick hinv hon', frameComplete_tick hinv hon', hbeam,
      Bool.or_eq_true, hframe, decide_eq_true_eq, or_assoc]
    exact ⟨hon', by rw [Nat.mod_add_mod, Nat.add_assoc], or_congr_right (by omega)⟩

/-- Settles O40: the seven things a tick can be move the beam by one dot; the rest is the invariant and its frame. -/
theorem frameCadence : Obligations.FrameCadence := by
  refine ⟨fun p q r h hon ht => ?tick, fun s => ?machine, fun s n h hon => ?run⟩
  case tick =>
    obtain ⟨rfl, rfl⟩ := Prod.ext_iff.1 ht
    have hinv := ppuTick_inv h
    have hon' := (tick_lcdOn p).trans hon
    exact ⟨beam_tick h hon, hinv.dotRange, hon', hinv.onMode hon', frameComplete_tick h hon, vblank_tick h hon⟩
  case machine =>
    exact ⟨ppuTick_ppu s, ppuTick_if5 s, (ppuTick_same s).ie5, rfl, rfl, rfl, rfl, rfl, rfl, rfl, rfl, rfl, rfl⟩
  case run => exact (ppuAdvance_beam h hon n).right

/-! ### STAT -/

/-- What a tick asks of STAT: the mode it enters, or the scanline it reaches, with the enable bit of that event
(rule R428). -/
def Ppu.statEvent (p q : Ppu) : Prop :=
  (p.mode ≠ .hblank ∧ q.mode = .hblank ∧ p.statEn.getLsbD 0 = true) ∨
  (p.mode ≠ .vblank ∧ q.mode = .vblank ∧ p.statEn.getLsbD 1 = true) ∨
  (p.mode ≠ .oamScan ∧ q.mode = .oamScan ∧ p.statEn.getLsbD 2 = true) ∨
  (q.ly ≠ p.ly ∧ q.ly = p.lyc.toNat ∧ p.statEn.getLsbD 3 = true)

theorem stat_tick {p : Ppu} (h : p.Inv) (hon : p.lcdOn = true) :
    p.tick.2.getLsbD 1 = true ↔ p.statEvent p.tick.1 := by
  have hmode := h.onMode hon
  have hc := tick_cases h hon
  generalize p.tick = r at hc
  simp only [modeAt, Config.screenHeight] at hmode
  cases hc
  case render hl hd =>
    rw [if_neg (by omega), if_pos (by omega)] at hmode
    simp [Ppu.statEvent, Ppu.renderLine]
  case hblank hl hd =>
    rw [if_neg (by omega), if_neg (by omega), if_pos (by omega)] at hmode
    simp only [statRequest_bit]
    simp [Ppu.statEvent, hmode]
  case line hl hd =>
    rw [if_neg (by omega), if_neg (by omega), if_neg (by omega)] at hmode
    simp only [BitVec.getLsbD_or, statRequest_bit, lycRequest_bit]
    simp [Ppu.statEvent, hmode]
  case vblank hl hd =>
    rw [if_neg (by omega), if_neg (by omega), if_neg (by omega)] at hmode
    simp only [BitVec.getLsbD_or, vblankMask_bit, statRequest_bit, lycRequest_bit]
    simp [Ppu.statEvent, hmode, hl]
  case dot hd hv =>
    simp only [Ppu.statEvent]
    tauto
  case vline hl hl' hd =>
    rw [if_pos (by omega)] at hmode
    simp only [lycRequest_bit]
    simp [Ppu.statEvent, hmode]
  case wrap hl hd =>
    rw [if_pos (by omega)] at hmode
    simp only [BitVec.getLsbD_or, statRequest_bit, lycRequest_bit]
    simp [Ppu.statEvent, hmode, hl]

/-- No tick requests another source than VBlank and STAT (rule R428). -/
theorem tick_requests {p : Ppu} (h : p.Inv) (hon : p.lcdOn = true) {j : Nat} (hj : 2 ≤ j) :
    p.tick.2.getLsbD j = false := by
  have h0 : j ≠ 0 := by omega
  have h1 : j ≠ 1 := by omega
  have hc := tick_cases h hon
  generalize p.tick = r at hc
  cases hc <;> simp [statRequest_bit, lycRequest_bit, vblankMask_bit, h0, h1]

/-- The fields of STAT as a number (rule R48). -/
theorem toNat_statByte : ∀ (en : BitVec 4) (coincidence : Bool) (mode : BitVec 2),
    ((0x80 : Byte) ||| (en.setWidth 8 <<< 3) ||| (bitByte coincidence <<< 2) ||| mode.setWidth 8).toNat =
      0x80 + en.toNat * 8 + (if coincidence then 4 else 0) + mode.toNat := by
  decide

/-- The scanline and the mode STAT shows are the counters themselves: with the LCD off these are 0 and HBlank. -/
theorem shown_eq {p : Ppu} (h : p.Inv) : p.shownLy = BitVec.ofNat 8 p.ly ∧ p.shownMode = p.mode.code := by
  cases hon : p.lcdOn
  case false =>
    obtain ⟨hly, -, hmode⟩ := h.off hon
    simp [Ppu.shownLy, Ppu.shownMode, hon, hly, hmode, Mode.code]
  case true => simp [Ppu.shownLy, Ppu.shownMode, hon]

theorem toNat_readStat {p : Ppu} (h : p.Inv) :
    p.readStat.toNat =
      0x80 + p.statEn.toNat * 8 + (if p.ly = p.lyc.toNat then 4 else 0) + p.mode.code.toNat := by
  obtain ⟨hly, hmode⟩ := shown_eq h
  have hrange := h.lyRange
  simp only [Config.scanlines] at hrange
  have hcmp : (BitVec.ofNat 8 p.ly == p.lyc) = decide (p.ly = p.lyc.toNat) := by
    rw [Bool.eq_iff_iff, beq_iff_eq, decide_eq_true_eq, BitVec.toNat_eq, BitVec.toNat_ofNat,
      Nat.mod_eq_of_lt (by omega)]
  rw [Ppu.readStat, toNat_statByte, hly, hmode, hcmp]
  simp only [decide_eq_true_eq]

/-- Settles O41: the requests case by case of a tick, and the fields of the byte. -/
theorem statRequestsAtFourEvents : Obligations.StatRequestsAtFourEvents := by
  refine ⟨fun p q r h hon ht => ?tick, fun s v h => ?bus⟩
  case tick =>
    obtain ⟨rfl, rfl⟩ := Prod.ext_iff.1 ht
    exact ⟨stat_tick h hon, tick_requests h hon (by decide), tick_requests h hon (by decide),
      tick_requests h hon (by decide)⟩
  case bus =>
    obtain ⟨hread, hwrite⟩ := bus_io (show s.place 0xFF41 = .io .stat from rfl) v
    exact ⟨(congrArg BitVec.toNat hread).trans (toNat_readStat h), hwrite⟩

/-! ### The LCD off, and the switch -/

/-- Bit 7 of LCDC as it was: no counter moves (rule R407). -/
theorem writeLcdc_same {p : Ppu} {v : Byte} (h : p.lcdc.getLsbD 7 = v.getLsbD 7) :
    p.writeLcdc v = { p with lcdc := v } :=
  if_pos h

/-- Bit 7 of LCDC switched: the frame starts over, in the mode of the new bit (rule R407). -/
theorem writeLcdc_switch {p : Ppu} {v : Byte} (h : p.lcdc.getLsbD 7 ≠ v.getLsbD 7) :
    p.writeLcdc v =
      { p with
        lcdc := v, ly := 0, dot := 0, wly := 0, mode := if v.getLsbD 7 then .oamScan else .hblank } :=
  if_neg h

/-- Settles O42: the tick with the LCD off, and the two kinds of write. -/
theorem lcdOffPacingAndLcdcWrites : Obligations.LcdOffPacingAndLcdcWrites := by
  refine ⟨fun p hoff hcount => by rw [tick_off_lcd hoff, offTick_eq hcount], fun s v => ?_⟩
  obtain ⟨hread, hwrite⟩ := bus_io (show s.place 0xFF40 = .io .lcdc from rfl) v
  rw [hwrite, State.writeIo]
  refine ⟨hread, fun hsame => ?same, fun hon hv => ?off, fun hoff hv => ?on⟩
  case same => rw [writeLcdc_same hsame]
  case off => simp only [writeLcdc_switch (v := v) (by rw [hon, hv]; decide), hv, Bool.false_eq_true, if_false]
  case on => simp only [writeLcdc_switch (v := v) (by rw [hoff, hv]; decide), hv, if_true]

/-! ### Rendering and publishing -/

section
variable {p : Ppu}

/-- The pixels of a scanline do not see the dot and the mode. -/
theorem pixel_beam (p : Ppu) (dot : Nat) (mode : Mode) :
    ({ p with dot := dot, mode := mode } : Ppu).pixel = p.pixel := rfl

theorem windowOnLine_iff {y : Nat} : p.windowOnLine y = true ↔
    p.lcdc.getLsbD 5 = true ∧ p.lcdc.getLsbD 0 = true ∧ p.wy.toNat ≤ y ∧ p.wx.toNat ≤ 166 := by
  simp only [Ppu.windowOnLine, Bool.and_eq_true, decide_eq_true_eq, and_assoc]

/-- What `RenderLine` writes, from the PPU before its tick (rules R410, R416, R426). -/
theorem renderLine_at (p : Ppu) (dot : Nat) (mode : Mode) (y : Nat) :
    (({ p with dot := dot, mode := mode } : Ppu).renderLine y).back =
        p.back.set y ((List.range 160).map (p.pixel y)) ∧
      (({ p with dot := dot, mode := mode } : Ppu).renderLine y).wly =
        if p.windowOnLine y then p.wly + 1 else p.wly := by
  refine ⟨rfl, ?_⟩
  simp only [Ppu.renderLine, windowAt_any]
  rfl

/-- A tick renders at dot 80 of a visible scanline only (rule R410). -/
theorem back_tick (h : p.Inv) (hon : p.lcdOn = true) : p.tick.1.back =
    if p.ly < 144 ∧ p.dot = 79 then p.back.set p.ly ((List.range 160).map (p.pixel p.ly)) else p.back := by
  have hc := tick_cases h hon
  generalize p.tick = r at hc
  cases hc
  case render hl hd => rw [if_pos ⟨hl, hd⟩, (renderLine_at p 80 .transfer p.ly).left]
  all_goals rw [if_neg (by omega)]

/-- A tick publishes at the end of the last visible scanline only (rule R433). -/
theorem front_tick (h : p.Inv) (hon : p.lcdOn = true) :
    p.tick.1.front = if p.ly = 143 ∧ p.dot = 455 then p.back else p.front := by
  have hc := tick_cases h hon
  generalize p.tick = r at hc
  cases hc
  case vblank hl hd => rw [if_pos ⟨hl, hd⟩]
  case render hl hd =>
    rw [if_neg (by omega)]
    rfl
  all_goals rw [if_neg (by omega)]

/-- The window line counter counts where a scanline is rendered and starts over at the wrap (rule R416). -/
theorem wly_tick (h : p.Inv) (hon : p.lcdOn = true) : p.tick.1.wly =
    if p.ly < 144 ∧ p.dot = 79 ∧ p.windowOnLine p.ly = true then p.wly + 1
    else if p.ly = 153 ∧ p.dot = 455 then 0 else p.wly := by
  have hc := tick_cases h hon
  generalize p.tick = r at hc
  cases hc
  case render hl hd =>
    rw [(renderLine_at p 80 .transfer p.ly).right, if_neg (c := p.ly = 153 ∧ _) (by omega)]
    simp only [hl, hd, true_and]
  case wrap hl hd => rw [if_neg (by omega), if_pos ⟨hl, hd⟩]
  all_goals rw [if_neg (by omega), if_neg (by omega)]

end

/-- Settles O43: one of the seven ticks renders, one publishes and one clears the window line counter. -/
theorem scanlinesAreRenderedOnceAndPublished : Obligations.ScanlinesAreRenderedOnceAndPublished := by
  intro p q r h hon ht
  obtain ⟨rfl, rfl⟩ := Prod.ext_iff.1 ht
  have hwly := wly_tick h hon
  simp only [windowOnLine_iff] at hwly
  exact ⟨back_tick h hon, front_tick h hon, hwly, fun hv hd => wly_before_render h hv (by omega),
    (tick_regs p).vram, (tick_regs p).oam⟩

end Sys2Proof.Machine

/-! The picture (62_ppu.md): the pixels of the background and window layer, the sprites of a scanline, and which of
the two layers a pixel shows. -/

namespace Sys2Proof.Machine

/-! ### The background and window layer -/

section
variable {p : Ppu} {y x : Nat}

/-- The tile map as a bus address (rule R414). -/
theorem tileMapBase_address (mapBit : Bool) : tileMapBase mapBit + 0x8000 = if mapBit then 0x9C00 else 0x9800 := by
  cases mapBit <;> rfl

/-- The tile as a bus address (rule R414). -/
theorem bgTileBase_address (p : Ppu) (t : Byte) : p.bgTileBase t + 0x8000 =
    if p.lcdc.getLsbD 4 then 0x8000 + 16 * t.toNat
    else if t.toNat < 128 then 0x9000 + 16 * t.toNat else 0x8800 + 16 * (t.toNat - 128) := by
  unfold Ppu.bgTileBase
  split_ifs <;> omega

/-- From a bus address back to an offset in video RAM. -/
theorem add_sub_vramStart (offset k : Nat) : offset + 0x8000 + k - 0x8000 = offset + k := by omega

/-- The two bit planes of a pixel of a layer, with `map` and `base` as bus addresses (rule R414). -/
theorem toNat_layerPixel (px py : Nat) {offset map base : Nat} {t : Byte}
    (hmap : map = offset + 0x8000) (ht : t = p.vram.read (map + py / 8 * 32 + px / 8 - 0x8000))
    (hbase : base = p.bgTileBase t + 0x8000) :
    (p.layerPixel offset px py).toNat =
      2 * ((p.vram.read (base + 2 * (py % 8) + 1 - 0x8000)).getLsbD (7 - px % 8)).toNat +
        ((p.vram.read (base + 2 * (py % 8) - 0x8000)).getLsbD (7 - px % 8)).toNat := by
  rw [hmap, Nat.add_assoc (offset + 0x8000), add_sub_vramStart, ← Nat.add_assoc] at ht
  rw [hbase, Nat.add_assoc (_ + 0x8000), add_sub_vramStart, add_sub_vramStart, ← Nat.add_assoc, Ppu.layerPixel, ← ht,
    toNat_tilePixel]

/-- While the layer is enabled a pixel is one of the window or of the scrolled background (rules R412, R413). -/
theorem bgIndex_enabled (hon : p.lcdc.getLsbD 0 = true) {win : Bool} (hwin : win = p.windowAt y x) :
    p.bgIndex y x =
      p.layerPixel (tileMapBase (if win then p.lcdc.getLsbD 6 else p.lcdc.getLsbD 3))
        (if win then x + 7 - p.wx.toNat else (x + p.scx.toNat) % 256)
        (if win then p.wly else (y + p.scy.toNat) % 256) := by
  rw [Ppu.bgIndex, if_neg (by rw [hon]; decide), ← hwin]
  cases win <;> rfl

theorem windowAt_enabled (hon : p.lcdc.getLsbD 0 = true) : p.windowAt y x =
    (p.lcdc.getLsbD 5 && decide (p.wy.toNat ≤ y) && decide (p.wx.toNat ≤ 166) && decide (p.wx.toNat ≤ x + 7)) := by
  rw [Ppu.windowAt, Ppu.windowOnLine, hon, Bool.and_true]

/-- A disabled layer shows shade 0 without the palette (rule R417). -/
theorem bg_disabled (hoff : p.lcdc.getLsbD 0 = false) : p.bgIndex y x = 0 ∧ p.bgShade y x = 0 :=
  ⟨if_pos hoff, if_neg (by rw [hoff]; decide)⟩

theorem toNat_bgShade (hon : p.lcdc.getLsbD 0 = true) :
    (p.bgShade y x).toNat = p.bgp.toNat / 4 ^ (p.bgIndex y x).toNat % 4 := by
  rw [Ppu.bgShade, if_pos hon, toNat_paletteShade]

/-- The sprite that decides a pixel (rule R425). -/
def Ppu.winner (p : Ppu) (y x : Nat) : Option Nat :=
  if p.lcdc.getLsbD 1 then (p.spritesOnLine y).find? (fun i => p.spriteIndex y x i != 0) else none

theorem pixel_of_no_winner (h : p.winner y x = none) : p.pixel y x = p.bgShade y x := by
  simp only [Ppu.winner] at h
  simp only [Ppu.pixel, h]

theorem pixel_of_winner {i : Nat} (h : p.winner y x = some i) : p.pixel y x =
    if (p.oamByte i 3).getLsbD 7 = true ∧ p.bgIndex y x ≠ 0 then p.bgShade y x
    else paletteShade (if (p.oamByte i 3).getLsbD 4 then p.obp1 else p.obp0) (p.spriteIndex y x i) := by
  simp only [Ppu.winner] at h
  simp only [Ppu.pixel, h, Bool.and_eq_true, bne_iff_ne]

end

/-- Settles O44: the layer's tile map and tile are bus addresses less the start of video RAM. -/
theorem backgroundAndWindowPixels : Obligations.BackgroundAndWindowPixels := by
  rintro p y x win px py map base idx t - - hwin rfl rfl hmap ht hbase hidx
  refine ⟨fun hon => ?enabled, bg_disabled, fun hoff => pixel_of_no_winner (if_neg (by rw [hoff]; decide))⟩
  rw [← windowAt_enabled hon] at hwin
  rw [← tileMapBase_address] at hmap
  rw [← bgTileBase_address] at hbase
  have hindex : (p.bgIndex y x).toNat = idx := by
    rw [bgIndex_enabled hon hwin, hidx, toNat_layerPixel _ _ hmap ht hbase]
  exact ⟨hindex, by rw [toNat_bgShade hon, hindex]⟩

/-! ### The sprites of a scanline -/

/-- What a sorted list takes first is smaller than what it leaves out, and it leaves something out only when it took
as many as it may. -/
theorem take_of_pairwise_lt {l : List Nat} (hl : l.Pairwise (· < ·)) {n i : Nat} (hi : i ∈ l)
    (hout : i ∉ l.take n) : (l.take n).length = n ∧ ∀ j ∈ l.take n, j < i := by
  have hdrop : i ∈ l.drop n := by
    rw [← List.take_append_drop n l, List.mem_append] at hi
    exact hi.resolve_left hout
  rw [← List.take_append_drop n l, List.pairwise_append] at hl
  obtain ⟨-, -, hlt⟩ := hl
  have hlen := List.length_pos_of_mem hdrop
  rw [List.length_drop] at hlen
  exact ⟨List.length_take_of_le (by omega), fun j hj => hlt j hj i hdrop⟩

section
variable (p : Ppu) (y : Nat)

/-- The entries of OAM that cover scanline `y`, by index (rule R421). -/
def Ppu.covering : List Nat := (List.range 40).filter (p.spriteOnLine y)

variable {p y}

theorem covering_sorted : (p.covering y).Pairwise (· < ·) := List.pairwise_lt_range.filter _

theorem mem_covering {i : Nat} : i ∈ p.covering y ↔
    i < 40 ∧ (p.oam.read (4 * i)).toNat ≤ y + 16 ∧
      y + 16 < (p.oam.read (4 * i)).toNat + if p.lcdc.getLsbD 2 then 16 else 8 := by
  simp only [Ppu.covering, List.mem_filter, List.mem_range, Ppu.spriteOnLine, Bool.and_eq_true, decide_eq_true_eq]
  rfl

theorem spritesOnLine_perm_take : (p.spritesOnLine y).Perm ((p.covering y).take 10) := spritesOnLine_perm p y

theorem spritesOnLine_nodup : (p.spritesOnLine y).Nodup :=
  spritesOnLine_perm_take.nodup_iff.2 ((covering_sorted.imp Nat.ne_of_lt).sublist (List.take_sublist 10 _))

/-- Of two entries, the one that stands before the other has the smaller X, or the same X and the smaller index
(rule R422). -/
theorem spriteBefore_strict {i j : Nat} (h : p.spriteBefore i j = true) (hne : i ≠ j) :
    (p.oam.read (4 * i + 1)).toNat < (p.oam.read (4 * j + 1)).toNat ∨
      ((p.oam.read (4 * i + 1)).toNat = (p.oam.read (4 * j + 1)).toNat ∧ i < j) := by
  simp only [Ppu.spriteBefore, Bool.or_eq_true, Bool.and_eq_true, decide_eq_true_eq] at h
  exact h.imp_right fun ⟨hx, hle⟩ => ⟨hx, Nat.lt_of_le_of_ne hle hne⟩

theorem spritesOnLine_sorted : (p.spritesOnLine y).Pairwise fun i j => p.spriteBefore i j = true :=
  have : Std.Total fun i j => p.spriteBefore i j = true := ⟨spriteBefore_total p⟩
  have : IsTrans Nat fun i j => p.spriteBefore i j = true := ⟨fun _ _ _ => spriteBefore_trans p⟩
  List.pairwise_insertionSort _ _

end

/-- Settles O45: the sort only reorders the first ten covering entries, which stand by index before the rest. -/
theorem spriteSelectionAndOrder : Obligations.SpriteSelectionAndOrder := by
  rintro p y _ rfl
  have hperm := spritesOnLine_perm_take (p := p) (y := y)
  refine ⟨?_, spritesOnLine_nodup, ?order, fun i hi => ?covers, fun i hi hout => ?leftOut⟩
  · rw [hperm.length_eq]
    exact List.length_take_le 10 _
  case order =>
    exact (spritesOnLine_sorted.and spritesOnLine_nodup).imp fun ⟨hb, hne⟩ => spriteBefore_strict hb hne
  case covers => exact mem_covering.1 (List.mem_of_mem_take (hperm.mem_iff.1 hi))
  case leftOut =>
    rw [hperm.mem_iff] at hout
    obtain ⟨hlen, hlt⟩ := take_of_pairwise_lt covering_sorted (mem_covering.2 hi) hout
    exact ⟨hperm.length_eq.trans hlen, fun j hj => hlt j (hperm.mem_iff.1 hj)⟩

/-! ### Sprite pixels -/

section
variable {p : Ppu} {y x i : Nat}

/-- The two tiles of a tall sprite (rule R423). -/
theorem toNat_tallTile : ∀ (t : Byte) (k : Fin 2),
    ((t &&& 0xFE) ||| BitVec.ofNat 8 k.val).toNat = t.toNat / 2 * 2 + k.val := by
  decide +kernel

theorem spriteIndex_outside (h : ¬((p.oamByte i 1).toNat ≤ x + 8 ∧ x + 8 ≤ (p.oamByte i 1).toNat + 7)) :
    p.spriteIndex y x i = 0 :=
  if_neg (by omega)

theorem toNat_spriteIndex {left line row col tile : Nat} (hleft : left = (p.oamByte i 1).toNat)
    (hline : line = y + 16 - (p.oamByte i 0).toNat) (hcover : line < p.spriteHeight)
    (hrow : row = if (p.oamByte i 3).getLsbD 6 then p.spriteHeight - 1 - line else line)
    (hcol : col = if (p.oamByte i 3).getLsbD 5 then 7 - (x + 8 - left) else x + 8 - left)
    (htile : tile = if p.spriteHeight = 16 then (p.oamByte i 2).toNat / 2 * 2 + row / 8 else (p.oamByte i 2).toNat)
    (lo : left ≤ x + 8) (hi : x + 8 ≤ left + 7) :
    (p.spriteIndex y x i).toNat =
      2 * ((p.vram.read (16 * tile + 2 * (row % 8) + 1)).getLsbD (7 - col)).toNat +
        ((p.vram.read (16 * tile + 2 * (row % 8))).getLsbD (7 - col)).toNat := by
  have hrange : row < p.spriteHeight := by
    rw [hrow]
    split <;> omega
  have htall : p.spriteHeight = 16 →
      ((p.oamByte i 2 &&& 0xFE) ||| BitVec.ofNat 8 (row / 8)).toNat = (p.oamByte i 2).toNat / 2 * 2 + row / 8 :=
    fun h16 => toNat_tallTile (p.oamByte i 2) ⟨row / 8, by omega⟩
  rw [← toNat_tilePixel]
  simp only [Ppu.spriteIndex, ← hleft, ← hline, ← hrow, ← hcol]
  rw [if_pos (by omega), htile]
  split
  case isTrue h16 => rw [htall h16]
  case isFalse => rfl

theorem winner_eq_none (h : ∀ j ∈ p.spritesOnLine y, p.spriteIndex y x j = 0) : p.winner y x = none := by
  rw [Ppu.winner]
  split
  · exact List.find?_eq_none.2 fun j hj => by simp [h j hj]
  · rfl

/-- The first sprite that is not transparent decides (rule R425). -/
theorem winner_eq_some (hon : p.lcdc.getLsbD 1 = true) {front behind : List Nat}
    (hl : p.spritesOnLine y = front ++ i :: behind) (hfront : ∀ j ∈ front, p.spriteIndex y x j = 0)
    (hi : p.spriteIndex y x i ≠ 0) : p.winner y x = some i := by
  rw [Ppu.winner, if_pos hon, hl, List.find?_append,
    List.find?_eq_none.2 fun j hj => by simp [hfront j hj], Option.none_or]
  exact List.find?_cons_of_pos (bne_iff_ne.2 hi)

end

/-- Settles O46: the sprite's own pixel first, then the winner of the pixel. -/
theorem spritePixelsAndPriority : Obligations.SpritePixelsAndPriority := by
  refine ⟨toNat_paletteShade, fun p y x h => pixel_of_no_winner (winner_eq_none h), ?_⟩
  rintro p y x i _ _ h row col tile _ _ rfl rfl rfl rfl hh htop hbottom hrow hcol htile
  have hheight : p.spriteHeight = h := hh.symm
  subst hheight
  refine ⟨fun lo hi => ?inside, spriteIndex_outside, fun hon front behind hl hfront hi => ?wins⟩
  case inside =>
    have hcover : y + 16 - (p.oam.read (4 * i)).toNat < p.spriteHeight := Nat.sub_lt_left_of_lt_add htop hbottom
    exact toNat_spriteIndex rfl rfl hcover hrow hcol htile lo hi
  case wins => exact pixel_of_winner (winner_eq_some hon hl hfront hi)

end Sys2Proof.Machine

/-! The cartridge at its ends (63_cartridge_mbc.md): banking commands, and the machine that a load builds. -/

namespace Sys2Proof.Machine

/-! ### Banking commands -/

theorem busWrite_rom {s : State} {a : Word} (h : a.toNat ≤ 0x7FFF) (v : Byte) :
    s.busWrite a v = { s with cart := s.cart.controlWrite a v } := by
  rw [State.busWrite, place_rom h]

theorem controlWrite_none {c : Cart} (h : c.cartType = .none) (a : Word) (v : Byte) : c.controlWrite a v = c := by
  rw [Cart.controlWrite, h]

section
variable {c : Cart} {a : Word} (v : Byte) (h : c.cartType = .mbc1)
include h

/-- With the controller the range of the address chooses the register (rule R455). -/
theorem controlWrite_mbc1 : c.controlWrite a v =
    if a.toNat ≤ 0x1FFF then { c with ramEnable := v &&& 0x0F == 0x0A }
    else if a.toNat ≤ 0x3FFF then
      { c with bank1 := if v.extractLsb' 0 5 = 0 then 1 else v.extractLsb' 0 5 }
    else if a.toNat ≤ 0x5FFF then { c with bank2 := v.extractLsb' 0 2 }
    else { c with bankMode := v.getLsbD 0 } := by
  rw [Cart.controlWrite, h]

end

theorem extractLsb'_zero_eq (v : Byte) (n : Nat) : v.extractLsb' 0 n = BitVec.ofNat n (v.toNat % 2 ^ n) := by
  apply BitVec.eq_of_toNat_eq
  simp

/-- The code that enables RAM is a low nibble of 10 (rule R456). -/
theorem ramEnable_code : ∀ v : Byte, (v &&& 0x0F == 0x0A) = decide (v.toNat % 16 = 10) := by
  decide +kernel

/-- The lower bank register on numbers: zero is stored as 1 (rule R457). -/
theorem bank1_code (v : Byte) : (if v.extractLsb' 0 5 = 0 then 1 else v.extractLsb' 0 5) =
    BitVec.ofNat 5 (if v.toNat % 32 = 0 then 1 else v.toNat % 32) := by
  have hzero : v.extractLsb' 0 5 = 0 ↔ v.toNat % 32 = 0 := by
    simp [BitVec.toNat_eq]
  simp only [hzero]
  split
  · rfl
  · exact extractLsb'_zero_eq v 5

theorem bank2_code (v : Byte) : v.extractLsb' 0 2 = BitVec.ofNat 2 (v.toNat % 4) := extractLsb'_zero_eq v 2

theorem bankMode_code (v : Byte) : v.getLsbD 0 = decide (v.toNat % 2 = 1) := by
  simp [BitVec.getLsbD, Nat.testBit_zero]

/-- Settles O51: the address is in the image's range, where a write is a command of the controller. -/
theorem bankingCommands : Obligations.BankingCommands := by
  intro s a v ha
  rw [busWrite_rom ha]
  refine ⟨fun hnone => by rw [controlWrite_none hnone], fun hmbc => ?_⟩
  rw [controlWrite_mbc1 v hmbc, ramEnable_code, bank1_code, bank2_code, bankMode_code]
  refine ⟨fun hi => ?_, fun lo hi => ?_, fun lo hi => ?_, fun lo => ?_⟩
  · rw [if_pos hi]
  · rw [if_neg (by omega), if_pos hi]
  · rw [if_neg (by omega), if_neg (by omega), if_pos hi]
  · rw [if_neg (by omega), if_neg (by omega), if_neg (by omega)]

/-! ### The header of an image -/

/-- The type byte of a supported cartridge (rules R451, R452). -/
theorem cartTypeOfByte_eq_some : ∀ v : Byte, v.toNat ≤ 3 → cartTypeOfByte v =
    some (if v.toNat = 0 then .none else .mbc1, decide (2 ≤ v.toNat), decide (v.toNat = 3)) := by
  decide +kernel

theorem cartTypeOfByte_eq_none : ∀ v : Byte, 3 < v.toNat → cartTypeOfByte v = none := by
  decide +kernel

/-- The size code of external RAM (rule R451). -/
theorem ramLenOfCode_eq_some : ∀ v : Byte, v.toNat ≤ 5 →
    ramLenOfCode v = some ([0, 2048, 8192, 32768, 131072, 65536].getD v.toNat 0) := by
  decide +kernel

theorem ramLenOfCode_eq_none : ∀ v : Byte, 5 < v.toNat → ramLenOfCode v = none := by
  decide +kernel

/-! ### The cartridge of an image -/

/-- The bytes of external RAM that a header stands for (rules R451, R452). -/
def headerRamLen (rom : List Byte) : Nat :=
  if (rom.getD 0x0147 0).toNat < 2 then 0
  else [0, 2048, 8192, 32768, 131072, 65536].getD (rom.getD 0x0149 0).toNat 0

/-- The cartridge that an image with a supported header stands for. -/
def headerCart (rom ram : List Byte) : Cart where
  rom := Memory.ofBytes rom
  romLen := rom.length
  cartType := if (rom.getD 0x0147 0).toNat = 0 then .none else .mbc1
  hasRam := decide (2 ≤ (rom.getD 0x0147 0).toNat)
  hasBattery := decide ((rom.getD 0x0147 0).toNat = 3)
  romBanks := rom.length / 0x4000
  ramLen := headerRamLen rom
  extRam := Memory.ofBytes (ram.take (headerRamLen rom))
  ramEnable := false
  bank1 := 1
  bank2 := 0
  bankMode := false

section
variable {rom ram : List Byte}

theorem headerRamLen_eq : headerRamLen rom =
    if decide (2 ≤ (rom.getD 0x0147 0).toNat) then
      [0, 2048, 8192, 32768, 131072, 65536].getD (rom.getD 0x0149 0).toNat 0
    else 0 := by
  by_cases h : (rom.getD 0x0147 0).toNat < 2
  · rw [headerRamLen, if_pos h, if_neg (by rw [decide_eq_true_eq]; omega)]
  · rw [headerRamLen, if_neg h, if_pos (by rw [decide_eq_true_eq]; omega)]

/-- Without a controller there is no RAM (rule R465). -/
theorem headerRamLen_none (h : (headerCart rom ram).cartType = .none) : headerRamLen rom = 0 := by
  have htype : (rom.getD 0x0147 0).toNat = 0 := by
    by_contra hmbc
    simp only [headerCart, if_neg hmbc] at h
    cases h
  exact if_pos (by omega)

/-- External RAM has one of the sizes of the header's code (rule R35). -/
theorem headerRamLen_mem (hr : (rom.getD 0x0149 0).toNat ≤ 5) :
    headerRamLen rom ∈ [0, 2048, 8192, 32768, 65536, 131072] := by
  have hsize : ∀ code ≤ 5, [0, 2048, 8192, 32768, 131072, 65536].getD code 0 ∈
      [0, 2048, 8192, 32768, 65536, 131072] := by
    decide
  rw [headerRamLen]
  split
  · decide
  · exact hsize _ hr

theorem ofImage_missingHeader (h : rom.length < 0x0150) : Cart.ofImage rom ram = .error .missingHeader :=
  if_pos h

theorem ofImage_zeroBanks (h : 0x0150 ≤ rom.length) (hb : rom.length < 0x4000) :
    Cart.ofImage rom ram = .error .zeroBanks := by
  rw [Cart.ofImage, if_neg (by omega), if_pos (Nat.div_eq_of_lt hb)]

section
variable (h : 0x4000 ≤ rom.length)
include h

/-- An image that fills a bank is refused for its header alone. -/
theorem ofImage_lengthOk : ¬rom.length < 0x0150 ∧ ¬rom.length / Config.romBankSize = 0 := by
  simp only [Config.romBankSize]
  omega

theorem ofImage_unsupportedType (ht : 3 < (rom.getD 0x0147 0).toNat) :
    Cart.ofImage rom ram = .error .unsupportedType := by
  obtain ⟨hheader, hbanks⟩ := ofImage_lengthOk h
  rw [Cart.ofImage, if_neg hheader, if_neg hbanks, cartTypeOfByte_eq_none _ ht]

theorem ofImage_badRamSizeCode (ht : (rom.getD 0x0147 0).toNat ≤ 3) (hr : 5 < (rom.getD 0x0149 0).toNat) :
    Cart.ofImage rom ram = .error .badRamSizeCode := by
  obtain ⟨hheader, hbanks⟩ := ofImage_lengthOk h
  rw [Cart.ofImage, if_neg hheader, if_neg hbanks, cartTypeOfByte_eq_some _ ht]
  simp only [ramLenOfCode_eq_none _ hr]

theorem ofImage_ok (ht : (rom.getD 0x0147 0).toNat ≤ 3) (hr : (rom.getD 0x0149 0).toNat ≤ 5) :
    Cart.ofImage rom ram = .ok (headerCart rom ram) := by
  obtain ⟨hheader, hbanks⟩ := ofImage_lengthOk h
  rw [Cart.ofImage, if_neg hheader, if_neg hbanks, cartTypeOfByte_eq_some _ ht]
  simp only [ramLenOfCode_eq_some _ hr, ← headerRamLen_eq]
  rfl

theorem headerCart_inv (hr : (rom.getD 0x0149 0).toNat ≤ 5) : (headerCart rom ram).Inv where
  romOk := Memory.ok_ofBytes rom
  banksPresent := Nat.div_pos h (by decide)
  banksInImage := rfl
  extRamOk := Memory.ok_ofBytes_take ram _
  ramSize := headerRamLen_mem hr
  bank1NotZero := show (1 : BitVec 5) ≠ 0 by decide
  noneHasNoRam := headerRamLen_none

end

end

/-! ### The machine a load builds -/

/-- The machine of an image with a supported header, its RAM filled with the launch bytes (rules R500, R503). -/
def loadedState (rom : List Byte) (ram : LaunchRam) (policy : IllegalOpcodePolicy) : State :=
  { State.reset with
    cart := headerCart rom ram.extRam
    policy := policy
    wram := Memory.ofBytes (ram.wram.take Config.wramSize)
    hram := Memory.ofBytes (ram.hram.take Config.hramSize)
    ppu :=
      { State.reset.ppu with
        vram := Memory.ofBytes (ram.vram.take Config.vramSize)
        oam := Memory.ofBytes (ram.oam.take Config.oamSize) } }

section
variable {rom : List Byte} {ram : LaunchRam}

theorem load_error {policy : IllegalOpcodePolicy} {e : MalformedCartridge}
    (h : Cart.ofImage rom ram.extRam = .error e) : load rom ram policy = .error e := by
  rw [load, h]

theorem load_ok (policy : IllegalOpcodePolicy) (h : Cart.ofImage rom ram.extRam = .ok (headerCart rom ram.extRam)) :
    load rom ram policy = .ok (loadedState rom ram policy) := by
  rw [load, h]
  rfl

theorem loadedState_inv (policy : IllegalOpcodePolicy) (h : (headerCart rom ram.extRam).Inv) :
    (loadedState rom ram policy).Inv where
  cpu := resetSatisfiesTheInvariant.cpu
  timer := resetSatisfiesTheInvariant.timer
  ppu :=
    { reset_ppu_inv with
      vramOk := Memory.ok_ofBytes_take ram.vram _
      oamOk := Memory.ok_ofBytes_take ram.oam _ }
  cart := h
  wramOk := Memory.ok_ofBytes_take ram.wram _
  hramOk := Memory.ok_ofBytes_take ram.hram _

end

/-- An array filled with launch bytes reads as they do. -/
theorem read_ofBytes_take (bs : List Byte) {n i : Nat} (h : i < n) :
    (Memory.ofBytes (bs.take n)).read i = bs.getD i 0 := by
  rw [Memory.read_ofBytes, List.getD_eq_getElem?_getD, List.getD_eq_getElem?_getD, List.getElem?_take_of_lt h]

/-- Settles O54: the header decides, and an image it does not refuse gives `loadedState`. -/
theorem loadBuildsTheResetMachine : Obligations.LoadBuildsTheResetMachine := by
  intro rom ram policy
  refine ⟨fun h => load_error (ofImage_missingHeader h), fun h hb => load_error (ofImage_zeroBanks h hb),
    fun h ht => load_error (ofImage_unsupportedType h ht),
    fun h ht hr => load_error (ofImage_badRamSizeCode h ht hr), fun h ht hr => ?loads⟩
  refine ⟨loadedState rom ram policy, load_ok policy (ofImage_ok h ht hr),
    loadedState_inv policy (headerCart_inv h hr), rfl, rfl, rfl, rfl, rfl, rfl, rfl, rfl, rfl, rfl, rfl, rfl, rfl, rfl,
    fun i _ => Memory.read_ofBytes rom i, rfl, rfl, rfl,
    fun i hi => ⟨read_ofBytes_take ram.vram hi, read_ofBytes_take ram.wram hi⟩,
    fun i hi => read_ofBytes_take ram.oam hi, fun i hi => read_ofBytes_take ram.hram hi,
    fun i hi => read_ofBytes_take ram.extRam hi, rfl⟩

end Sys2Proof.Machine

/-! The I/O registers (64_io_devices.md) and the halted machine (70_reset_and_hazards.md, rule R514): joypad, serial
and plain PPU registers, OAM DMA, and what stays while the CPU is halted with no source enabled. -/

namespace Sys2Proof.Machine

/-! ### Joypad, serial and plain registers -/

section
variable {i : Nat} (hi : i < 4)
include hi

theorem lowNibble_bit : (0x0F : Byte).getLsbD i = true := by
  revert i
  decide

/-- The lines of one group: all high, or active low while the group is selected. -/
theorem group_line (unselected : Bool) (pressed : Byte) :
    (if unselected then (0x0F : Byte) else ~~~pressed &&& 0x0F).getLsbD i = (unselected || !pressed.getLsbD i) := by
  cases unselected
  case true => exact lowNibble_bit hi
  case false =>
    rw [if_neg Bool.false_ne_true, BitVec.getLsbD_and, BitVec.getLsbD_not, lowNibble_bit hi,
      decide_eq_true (show i < 8 by omega), Bool.true_and, Bool.and_true, Bool.false_or]

/-- A line is low if a button of a selected group is pressed on it (rule R481). -/
theorem readP1_line (j : Joypad) : j.readP1.getLsbD i =
    ((j.p1Select.getLsbD 0 || !j.buttons.getLsbD i) && (j.p1Select.getLsbD 1 || !j.buttons.getLsbD (i + 4))) := by
  have hselect : ((0xC0 : Byte) ||| (j.p1Select.setWidth 8 <<< 4)).getLsbD i = false := by
    have hhigh : ∀ i < 4, (0xC0 : Byte).getLsbD i = false := by decide
    rw [BitVec.getLsbD_or, hhigh i hi, BitVec.getLsbD_shiftLeft, decide_eq_true hi]
    simp
  rw [Joypad.readP1, BitVec.getLsbD_or, hselect, Bool.false_or, BitVec.getLsbD_and, group_line hi, group_line hi,
    BitVec.getLsbD_and, lowNibble_bit hi, Bool.and_true, BitVec.getLsbD_ushiftRight, Nat.add_comm 4 i]

end

/-- The upper half of P1 shows the select bits (rule R481). -/
theorem readP1_select : ∀ (buttons : Byte) (select : BitVec 2),
    ({ buttons := buttons, p1Select := select } : Joypad).readP1.toNat / 16 = 12 + select.toNat := by
  decide +kernel

theorem toNat_readSc (r : Serial) : r.readSc.toNat = 0x7E + 128 * r.sc7.toNat + r.sc0.toNat := by
  have hbits : ∀ b7 b0 : Bool,
      ((0x7E : Byte) ||| (bitByte b7 <<< 7) ||| bitByte b0).toNat = 0x7E + 128 * b7.toNat + b0.toNat := by decide
  exact hbits r.sc7 r.sc0

/-- Settles O49: each address leads to its register. -/
theorem joypadSerialAndPpuRegisters : Obligations.JoypadSerialAndPpuRegisters := by
  intro s v
  obtain ⟨hp1, hp1W⟩ := bus_io (show s.place 0xFF00 = .io .p1 from rfl) v
  obtain ⟨hsb, hsbW⟩ := bus_io (show s.place 0xFF01 = .io .sb from rfl) v
  obtain ⟨hsc, hscW⟩ := bus_io (show s.place 0xFF02 = .io .sc from rfl) v
  obtain ⟨hscy, hscyW⟩ := bus_io (show s.place 0xFF42 = .io .scy from rfl) v
  obtain ⟨hscx, hscxW⟩ := bus_io (show s.place 0xFF43 = .io .scx from rfl) v
  obtain ⟨hly, hlyW⟩ := bus_io (show s.place 0xFF44 = .io .ly from rfl) v
  obtain ⟨hlyc, hlycW⟩ := bus_io (show s.place 0xFF45 = .io .lyc from rfl) v
  obtain ⟨hbgp, hbgpW⟩ := bus_io (show s.place 0xFF47 = .io .bgp from rfl) v
  obtain ⟨hobp0, hobp0W⟩ := bus_io (show s.place 0xFF48 = .io .obp0 from rfl) v
  obtain ⟨hobp1, hobp1W⟩ := bus_io (show s.place 0xFF49 = .io .obp1 from rfl) v
  obtain ⟨hwy, hwyW⟩ := bus_io (show s.place 0xFF4A = .io .wy from rfl) v
  obtain ⟨hwx, hwxW⟩ := bus_io (show s.place 0xFF4B = .io .wx from rfl) v
  refine ⟨fun i hi => ?line, ?select, hp1W, hsb, hsbW, ?sc, hscW, hscy, hscyW, hscx, hscxW, hly, hlyW, hlyc, hlycW,
    hbgp, hbgpW, hobp0, hobp0W, hobp1, hobp1W, hwy, hwyW, hwx, hwxW⟩
  case line => rw [hp1, State.readIo, readP1_line hi s.joypad]
  case select => rw [hp1, State.readIo, readP1_select s.joypad.buttons s.joypad.p1Select]
  case sc => rw [hsc, State.readIo, toNat_readSc]

/-! ### OAM DMA -/

section
variable {s : State} {v : Byte}

/-- Byte `i` of OAM after the copy is the byte at its source address (rule R486). -/
theorem read_dmaBytes {i : Nat} (hi : i < 160) {a : Word} (ha : a = BitVec.ofNat 16 (v.toNat * 256 + i)) :
    (Memory.ofBytes (s.dmaBytes v)).read i = s.dmaRead a := by
  have hsource : joinBytes v 0 + BitVec.ofNat 16 i = a := by
    apply BitVec.eq_of_toNat_eq
    rw [ha, BitVec.toNat_add, toNat_joinBytes]
    simp
  rw [Memory.read_ofBytes, State.dmaBytes, List.getD_eq_getElem?_getD, List.getElem?_map,
    List.getElem?_range hi, Option.map_some, hsource, Option.getD_some]

/-- From the image the copy reads what the bus reads. -/
theorem dmaRead_rom {a : Word} (hi : a.toNat ≤ 0x7FFF) : s.dmaRead a = s.busRead a := by
  rw [dmaRead_low (by omega), if_pos hi, busRead_rom (place_rom hi), Cart.romRead]

theorem dmaRead_vram {a : Word} (lo : 0x8000 ≤ a.toNat) (hi : a.toNat ≤ 0x9FFF) :
    s.dmaRead a = s.ppu.vram.read (a.toNat - 0x8000) := by
  rw [dmaRead_low (by omega), if_neg (by omega), if_pos hi]

/-- From external RAM the copy reads what the bus reads, 0xFF while it is off. -/
theorem dmaRead_extRam {a : Word} (lo : 0xA000 ≤ a.toNat) (hi : a.toNat ≤ 0xBFFF) : s.dmaRead a = s.busRead a := by
  rw [dmaRead_low (by omega), if_neg (by omega), if_neg (by omega), if_pos hi, Cart.ramRead, State.busRead,
    place_extRam lo hi]
  cases s.cart.ramOn <;> rfl

theorem dmaRead_wram {a : Word} (lo : 0xC000 ≤ a.toNat) (hi : a.toNat ≤ 0xDFFF) :
    s.dmaRead a = s.wram.read (a.toNat - 0xC000) := by
  rw [dmaRead_low (by omega), if_neg (by omega), if_neg (by omega), if_neg (by omega)]

end

/-- Settles O50: the write leads to DMA, and each byte of the copy is read by the range of its source. -/
theorem dmaCopiesIntoOam : Obligations.DmaCopiesIntoOam := by
  rintro s t v rfl
  obtain ⟨hread, hwrite⟩ := bus_io (show s.place 0xFF46 = .io .dma from rfl) v
  have hdma : s.busWrite 0xFF46 v = s.writeDma v := hwrite
  rw [hdma]
  refine ⟨hread, rfl, rfl, dmaBytes_ok s v, ?_⟩
  rintro i src hi hsrc a ha
  have hbyte : (s.writeDma v).ppu.oam.read i = s.dmaRead a := read_dmaBytes hi (hsrc ▸ ha)
  have hnum : a.toNat = src := by
    have hv := v.isLt
    rw [ha, BitVec.toNat_ofNat, Nat.mod_eq_of_lt (by omega)]
  rw [hbyte, ← hnum]
  exact ⟨dmaRead_rom, dmaRead_vram, dmaRead_extRam, dmaRead_wram, dmaRead_high⟩

/-! ### Halted with no source enabled -/

/-- Settles O36: nothing can be pending, so the step idles, and then only the devices move. -/
theorem haltedWithNothingEnabledIsStable : Obligations.HaltedWithNothingEnabledIsStable := by
  intro s hd hh hie
  have hnone : s.irq.isPending = false := isPending_eq_false fun j _ => by simp [hie]
  obtain ⟨e, hie5, htma, htac, hregs⟩ := advanceDevices_same { s with cycles := 4 }
  refine ⟨_, step_of_next (cpuStep_idle hd hh hnone), by rw [e], hie5.trans hie, by rw [e], by rw [e], by rw [e],
    by rw [e], by rw [e], by rw [e], by rw [e], htma, htac, ?_⟩
  obtain ⟨hlcdc, hstatEn, hscy, hscx, hlyc, hbgp, hobp0, hobp1, hwy, hwx, hvram, hoam⟩ := hregs
  exact ⟨hvram, hoam, hlcdc, hstatEn, hscy, hscx, hlyc, hbgp, hobp0, hobp1, hwy, hwx⟩

end Sys2Proof.Machine
